-- ==== Sys2Proof/Word.lean ====
section
/-!
DEFINITION. The words of the Wejtor W8C: bytes, 16-bit numbers that wrap (sequence numbers and outcome serials, R84 and R99),
vehicle tags, and the two tables of fixed size the part has (eight outlets, sixteen profile slots).
-/

namespace Sys2Proof

/-- One character of a link. -/
abbrev Byte := BitVec 8

/-- A GRANT or STOP sequence number, 0..65,535, wrapping (R99). -/
abbrev Seq := BitVec 16

/-- An outcome serial, 0..65,535, wrapping (R84). -/
abbrev Serial := BitVec 16

/-- A vehicle tag: its characters in order (00, section 5.3). Tags compare exactly. -/
abbrev Tag := List Byte

/-- An outlet number, 0..7. -/
abbrev OutletNo := Fin 8

/-- A profile slot number, 0..15. -/
abbrev SlotNo := Fin 16

/-- A table with one entry for each of the eight outlets. -/
structure Eight (α : Type) where
  o0 : α
  o1 : α
  o2 : α
  o3 : α
  o4 : α
  o5 : α
  o6 : α
  o7 : α
  deriving DecidableEq, Repr

/-- The entry of outlet `o`. -/
def Eight.get {α : Type} (e : Eight α) (o : OutletNo) : α :=
  match o with
  | 0 => e.o0
  | 1 => e.o1
  | 2 => e.o2
  | 3 => e.o3
  | 4 => e.o4
  | 5 => e.o5
  | 6 => e.o6
  | 7 => e.o7

/-- The table with outlet `o`'s entry replaced. -/
def Eight.set {α : Type} (e : Eight α) (o : OutletNo) (v : α) : Eight α :=
  match o with
  | 0 => { e with o0 := v }
  | 1 => { e with o1 := v }
  | 2 => { e with o2 := v }
  | 3 => { e with o3 := v }
  | 4 => { e with o4 := v }
  | 5 => { e with o5 := v }
  | 6 => { e with o6 := v }
  | 7 => { e with o7 := v }

/-- The table that holds `v` for every outlet. -/
def Eight.all {α : Type} (v : α) : Eight α := ⟨v, v, v, v, v, v, v, v⟩

/-- The table with `f` applied to every entry. -/
def Eight.map {α β : Type} (f : α → β) (e : Eight α) : Eight β :=
  ⟨f e.o0, f e.o1, f e.o2, f e.o3, f e.o4, f e.o5, f e.o6, f e.o7⟩

/-- The entries in outlet-number order. -/
def Eight.toList {α : Type} (e : Eight α) : List α :=
  [e.o0, e.o1, e.o2, e.o3, e.o4, e.o5, e.o6, e.o7]

/-- The eight outlet numbers in ascending order. -/
def outletNumbers : List OutletNo := [0, 1, 2, 3, 4, 5, 6, 7]

/-- A table with one entry for each of the sixteen profile slots: slots 0..7 and slots 8..15. -/
structure Sixteen (α : Type) where
  low : Eight α
  high : Eight α
  deriving DecidableEq, Repr

/-- The entry of slot `p`. -/
def Sixteen.get {α : Type} (t : Sixteen α) (p : SlotNo) : α :=
  if h : p.val < 8 then t.low.get ⟨p.val, h⟩
  else t.high.get ⟨p.val - 8, by have := p.isLt; omega⟩

/-- The table with slot `p`'s entry replaced. -/
def Sixteen.set {α : Type} (t : Sixteen α) (p : SlotNo) (v : α) : Sixteen α :=
  if h : p.val < 8 then { t with low := t.low.set ⟨p.val, h⟩ v }
  else { t with high := t.high.set ⟨p.val - 8, by have := p.isLt; omega⟩ v }

/-- The table that holds `v` in every slot. -/
def Sixteen.all {α : Type} (v : α) : Sixteen α := ⟨Eight.all v, Eight.all v⟩

end Sys2Proof
end

