-- ==== Sys2Proof/Syntax.lean ====
section
/-!
DEFINITION. The commands of the Wejtor W8C: one constructor for each row of spec/opcode_table.json, with the operands the rules
give the event.
-/

namespace Sys2Proof

/-- Which part of a source second is taken first: each part takes it as its own event (R141, R142), so the calendar's event may
come before or after what expires at the same second (log 7). The counts themselves are taken before both (log 7). -/
inductive SecondOrder where
  /-- The calendar's second is taken first; what has expired is due after it. -/
  | calendarFirst
  /-- What has expired (leases, outdoor age, the grant boundary) is taken first. -/
  | expiriesFirst
  deriving DecidableEq, Repr

/-- The commands. `payload` is the payload of a site-link request (R200); `bytes` are the bytes that an outlet link carried from the
vehicle in the exchange, up to the end of the reply (R204; log 10); `ms` is the time of the event on the part's internal reference, in
milliseconds (06, section 6.2; log 8). -/
inductive Instr where
  /-- SITE_BYTE_RECEIVED (R182). -/
  | siteByteReceived (b : Byte) (ms : Nat)
  /-- FRAMING_ERROR (R183). -/
  | framingError
  /-- FRAME_GAP_EXPIRY (R183). -/
  | frameGapExpiry (ms : Nat)
  /-- FRAME_SENT (R188). -/
  | frameSent (ms : Nat)
  /-- UNKNOWN_TYPE (R187): a request of a TYPE outside the catalogue. -/
  | unknownType (ty : Byte) (payload : List Byte)
  /-- IDENTIFY (R192). -/
  | identify (payload : List Byte)
  /-- READ_STATUS (R193). -/
  | readStatus (payload : List Byte)
  /-- READ_CLOCK (R153). -/
  | readClock (payload : List Byte)
  /-- SET_CLOCK (R151). -/
  | setClock (payload : List Byte)
  /-- SET_SITE (R91, R46). -/
  | setSite (payload : List Byte)
  /-- SET_ALLOWANCE (R90). -/
  | setAllowance (payload : List Byte)
  /-- SET_OUTDOOR (R42). -/
  | setOutdoor (payload : List Byte)
  /-- LOAD_PROFILE (R34). -/
  | loadProfile (payload : List Byte)
  /-- READ_PROFILE (R36). -/
  | readProfile (payload : List Byte)
  /-- CLEAR_PROFILE (R35). -/
  | clearProfile (payload : List Byte)
  /-- BOOK (R13). -/
  | book (payload : List Byte)
  /-- CANCEL (R14). -/
  | cancel (payload : List Byte)
  /-- READ_BOOK (R15). -/
  | readBook (payload : List Byte)
  /-- READ_ENTRY (R195). -/
  | readEntry (payload : List Byte)
  /-- READ_OUTLET (R194); it reports how long ago the last report was received. -/
  | readOutlet (ms : Nat) (payload : List Byte)
  /-- READ_NOTICES (R175). -/
  | readNotices (payload : List Byte)
  /-- ACK_NOTICES (R176). -/
  | ackNotices (payload : List Byte)
  /-- SET_NOTICE_ENABLE (R177). -/
  | setNoticeEnable (payload : List Byte)
  /-- READ_OUTCOMES (R86). -/
  | readOutcomes (payload : List Byte)
  /-- DROP_OUTCOMES (R87). -/
  | dropOutcomes (payload : List Byte)
  /-- QUIESCE (R165). -/
  | quiesce (payload : List Byte)
  /-- RESUME (R163). -/
  | resume (payload : List Byte)
  /-- RESTART (R197). -/
  | restart (payload : List Byte)
  /-- MAIN_RESET (R28 and the reset rule of every chapter). -/
  | mainReset
  /-- MAIN_POWER_LOSS (R155). -/
  | mainPowerLoss
  /-- BACKUP_LOSS (R156). -/
  | backupLoss
  /-- SOURCE_SECOND (R141). -/
  | sourceSecond (order : SecondOrder)
  /-- WINDOW_END (R145): the crystal edges counted, and the whole internal seconds that a switch to the internal reference
  recovers (R148), each with its order (R142; log 24). -/
  | windowEnd (edges : Nat) (recovered : List SecondOrder)
  /-- OUTDOOR_AGED (R43). -/
  | outdoorAged
  /-- GRANT_BOUNDARY (R93). -/
  | grantBoundary
  /-- LEASE_EXPIRY (R107). -/
  | leaseExpiry (o : OutletNo)
  /-- RESIDUAL_LEASE_EXPIRY (R169). -/
  | residualLeaseExpiry (o : OutletNo)
  /-- PLUG_ASSERTED (R114). -/
  | plugAsserted (o : OutletNo) (ms : Nat)
  /-- PLUG_RELEASED (R113). -/
  | plugReleased (o : OutletNo)
  /-- SHED_LINE_ASSERTED (R159). -/
  | shedLineAsserted
  /-- SHED_LINE_DEASSERTED (R160). -/
  | shedLineDeasserted
  /-- SEND_QUEUED_RECORD (R115). -/
  | sendQueuedRecord (o : OutletNo) (ms : Nat)
  /-- POLL (R115). -/
  | poll (o : OutletNo) (ms : Nat)
  /-- HELLO (R120). -/
  | hello (o : OutletNo) (ms : Nat) (bytes : List Byte)
  /-- REPORT (R124). -/
  | report (o : OutletNo) (ms : Nat) (bytes : List Byte)
  /-- BYE (R129). -/
  | bye (o : OutletNo) (ms : Nat) (bytes : List Byte)
  /-- OTHER_KIND_REPLY (R117). -/
  | otherKindReply (o : OutletNo) (ms : Nat) (bytes : List Byte)
  /-- BAD_CRC_REPLY (R116). -/
  | badCrcReply (o : OutletNo) (ms : Nat) (bytes : List Byte)
  /-- REPLY_TIMEOUT (R116). -/
  | replyTimeout (o : OutletNo) (ms : Nat)
  /-- FRAME_WHILE_IDLE (R116). -/
  | frameWhileIdle (o : OutletNo) (ms : Nat)
  /-- REPLY_FORMED (R187). -/
  | replyFormed
  /-- PLUG_LINE_SAMPLE (R112): the level the sample shows. -/
  | plugLineSample (o : OutletNo) (ms : Nat) (asserted : Bool)
  /-- SHED_LINE_SAMPLE (R158): the level the sample shows. -/
  | shedLineSample (asserted : Bool)
  deriving DecidableEq, Repr

end Sys2Proof
end

