-- ==== Sys2Proof/Config.lean ====
section
/-!
DEFINITION. What the manual fixes once for the part (capacities, limits, factors) and the free values: the values the manual
leaves open, which are constants without a body, so that nothing proved can rest on what they are.
-/

namespace Sys2Proof.Config

/-- The most entries the book holds (R10). -/
def bookCapacity : Nat := 32

/-- The most outcome records the list holds (R84). -/
def outcomeCapacity : Nat := 16

/-- The most records an outbound queue holds (R132). -/
def queueCapacity : Nat := 4

/-- The most records a sent list holds (R125). -/
def sentCapacity : Nat := 4

/-- The most BUSY answers that may wait for the transmitter (R186). -/
def waitingCapacity : Nat := 4

/-- The last depot time of the span, 2099-12-31 23:59:59 (R140). -/
def lastDepotTime : Nat := 3155759999

/-- The last minute a recurring entry may depart at, 2099-12-31 23:59:00 (R7). -/
def lastMinute : Nat := 3155759940

/-- The search horizon of a recurring entry: 1,461 days in seconds (R7). -/
def searchHorizon : Nat := 126230400

/-- The upper end of a saturating 32-bit count (u in R149, energy in R72). -/
def max32 : Nat := 4294967295

/-- The greatest lead time, in seconds (R56). -/
def leadCap : Nat := 14400

/-- The wait between the end of an exchange and the next record, in milliseconds (R115). -/
def exchangeWait : Nat := 50

/-- The longest elapsed time counted for energy, in milliseconds (R71). -/
def energyLimit : Nat := 5000

/-- FREE VALUE (log 16). The scheduled departure in the outcome of a RECURRING entry that holds a departure snapshot when the
calendar leaves UNSET: R27 has made its next departure ABSENT and R26 gives no time for it. R140 says only that it lies
within the span. Applied to the state's counter of free values. -/
opaque lostDeparture : Nat → Fin 3155760000

/-- FREE VALUE (log 15). The start time of a plan whose lead time reaches back before 2000-01-01 00:00:00: R56 puts it before the
span, and R140 says that it lies within. Applied to the departure and the lead time; the plan takes it no later than the departure
(R56). -/
opaque startBeforeSpan : (departure lead : Nat) → Nat

/-- The gap that abandons a frame of the site link, in milliseconds (R183). -/
def frameGap : Nat := 10

/-- The longest payload of a frame on an outlet link (R204). -/
def recordCapacity : Nat := 16

end Sys2Proof.Config
end

