-- ==== Sys2Proof/Machine/State.lean ====
section
/-!
DEFINITION. The state of the Wejtor W8C as plain data: every record, field, queue, counter, mark and line the manual gives the
part, and the queue of commands that are waiting.
-/

namespace Sys2Proof.Machine

/-- The machine has no fault: no rule of the manual stops the part. An empty type, so nothing raises it (safe). -/
inductive Fault : Type
  deriving DecidableEq, Repr

/-- Why a command has no next state. -/
inductive Refusal where
  /-- Raised by exec's arm of a command that has no meaning yet; there is none left (safe: the machine stops). -/
  | notModelled (mnemonic : String)
  deriving DecidableEq, Repr

/-! ## The Time Base (07) -/

/-- Trust in the calendar's value (07, section 7.3): UNSET, TRUE, DRIFTING. -/
inductive CalendarState where
  | unset
  | trueTime
  | drifting
  deriving DecidableEq, Repr

/-- What delivers the source seconds (R141). -/
inductive SecondsSource where
  | crystal
  | internal
  deriving DecidableEq, Repr

/-- The backup domain: the calendar (as depot time, R140), its state, the seconds source, u (R149) and the supervisor (R145), whose
last window count saturates (07, section 7.4; log 36). -/
structure TimeBase where
  depotTime : Nat
  calendar : CalendarState
  source : SecondsSource
  u : Nat
  passCount : Nat
  lastWindow : Option (BitVec 16)
  deriving DecidableEq, Repr

/-- Which supplies are present (07, section 7.8): the main supply, the backup cell alone, or neither. -/
inductive Supply where
  | main
  | backupOnly
  | none
  deriving DecidableEq, Repr

/-! ## Profiles and the Planner (02, 03) -/

/-- One point of a delivery-factor table: temperature in tenths, factor in hundredths. -/
structure FactorPoint where
  temp : Int
  factor : Int
  deriving DecidableEq, Repr

/-- One profile record (02, section 2.1). -/
structure Profile where
  heatCapacity : Int
  lossCoefficient : Int
  maxDraw : Nat
  minDraw : Nat
  p0 : FactorPoint
  p1 : FactorPoint
  p2 : FactorPoint
  p3 : FactorPoint
  defrost : Nat
  deriving DecidableEq, Repr

/-- The state of the outdoor value (03, section 3.2). -/
inductive OutdoorState where
  | unknown
  | fresh
  | aged
  deriving DecidableEq, Repr

/-- What the Planner keeps between plans: the outdoor value with its mark, age and state (R42, R43), and the base margin (R46). -/
structure Planner where
  outdoorState : OutdoorState
  outdoor : Option Int
  outdoorClamped : Bool
  outdoorAge : Nat
  baseMargin : Nat
  deriving DecidableEq, Repr

/-- A set of planning conditions, coded as R201 lays down: bit 0 INPUT_CLAMPED to bit 7 DRIFT_MARGIN. -/
abbrev Conditions := BitVec 8

/-- A plan (03). `start` is the start time, a depot time of the span (R56, R140; log 15); `fullDraw` is the P_max the plan was computed
with, from which the demand of a WARMING lead is read (R58). -/
structure Plan where
  start : Nat
  leadTime : Nat
  warmSeconds : Nat
  defrostLeft : Nat
  holdPower : Nat
  slack : Int
  conditions : Conditions
  fullDraw : Nat
  deriving DecidableEq, Repr

/-! ## The Departure Book (01, 04) -/

/-- A recurring pattern (R6): weekday mask with bit 0 Monday to bit 6 Sunday. -/
structure Pattern where
  minute : Nat
  hour : Nat
  weekdays : BitVec 7
  day : Option Nat
  month : Option Nat
  deriving DecidableEq, Repr

/-- The kind of an entry with its booked departure (as a depot time) or its pattern (01, section 1.1). -/
inductive Booking where
  | oneShot (departure : Nat)
  | recurring (pattern : Pattern)
  deriving DecidableEq, Repr

/-- The state of an entry (01, section 1.2). -/
inductive EntryState where
  | booked
  | waiting
  | warming
  | holding
  deriving DecidableEq, Repr

/-- Readiness in a snapshot or an outcome (R74, R79). -/
inductive Readiness where
  | ready
  | short
  | absent
  | faulted
  | skipped
  deriving DecidableEq, Repr

/-- The departure snapshot (R74). -/
structure Snapshot where
  readiness : Readiness
  cabin : Option Int
  stale : Bool
  deriving DecidableEq, Repr

/-- The execution record (04, section 4.1). -/
structure Execution where
  warmingBegan : Option Nat
  targetReached : Option Nat
  energy : Nat
  defrostSpent : Nat
  snapshot : Option Snapshot
  conditions : Conditions
  deriving DecidableEq, Repr

/-- One entry of the book (01, section 1.1). `next` is the next departure, none when ABSENT. -/
structure Entry where
  number : Nat
  tag : Tag
  booking : Booking
  target : Int
  grace : Nat
  next : Option Nat
  state : EntryState
  bound : Option OutletNo
  occurrenceOutlet : Option OutletNo
  plan : Option Plan
  exec : Option Execution
  unreachable : Bool
  deriving DecidableEq, Repr

/-- The seven end causes (R79). -/
inductive EndCause where
  | graceExpired
  | notPresent
  | left
  | linkLost
  | fault
  | skipped
  | superseded
  deriving DecidableEq, Repr

/-- An outcome record (R83); `energy` is in watt-hours, `cabin` carries the stale mark with the temperature. -/
structure OutcomeRecord where
  serial : Serial
  number : Nat
  tag : Tag
  outlet : Option OutletNo
  scheduled : Nat
  readiness : Readiness
  cabin : Option (Int × Bool)
  targetReached : Option Nat
  energy : Nat
  cause : EndCause
  conditions : Conditions
  deriving DecidableEq, Repr

/-! ## Outlets: filter, session, queue, grants (05, 06) -/

/-- A three-sample filter (R112, R158): the filtered level and how many samples of the current run differ from it, 0..2. -/
structure Filter where
  asserted : Bool
  run : Nat
  deriving DecidableEq, Repr

/-- The session states (06, section 6.2). -/
inductive SessionState where
  | empty
  | awaitingHello
  | identified
  | unmatched
  | stale
  | closed
  | faulted
  deriving DecidableEq, Repr

/-- The state a STALE session came from (R118). -/
inductive CameFrom where
  | identified
  | unmatched
  deriving DecidableEq, Repr

/-- Why a session is UNMATCHED (R17). -/
inductive UnmatchedCause where
  | unknownTag
  | noProfile
  | tagConflict
  | badHello
  deriving DecidableEq, Repr

/-- Why a session ended in CLOSED or FAULTED (06, section 6.2). -/
inductive EndReason where
  | bye
  | linkLost
  | overdraw
  deriving DecidableEq, Repr

/-- The last report of a session (R124); `receivedAt` is in milliseconds. -/
structure Report where
  cabin : Int
  clamped : Bool
  draw : Nat
  named : Option Seq
  receivedAt : Nat
  deriving DecidableEq, Repr

/-- The acknowledged record (R125). -/
structure Acknowledged where
  seq : Seq
  watts : Nat
  deriving DecidableEq, Repr

/-- A GRANT or STOP that the channel has transmitted (R125); a STOP's grant is 0. -/
structure SentRecord where
  seq : Seq
  watts : Nat
  lease : Nat
  deriving DecidableEq, Repr

/-- The contents of a record for the vehicle: a WELCOME with its tag and, when UNMATCHED, its cause (R122); a GRANT; a STOP. -/
inductive QueueBody where
  | welcome (tag : Option Tag) (cause : Option UnmatchedCause)
  | grant (seq : Seq) (watts : Nat) (lease : Nat)
  | stop (seq : Seq) (lease : Nat)
  deriving DecidableEq, Repr

/-- A record in an outbound queue, with its stale mark (R132) and whether it has been transmitted before (R125). -/
structure QueueRecord where
  body : QueueBody
  stale : Bool
  sent : Bool
  deriving DecidableEq, Repr

/-- The channel of an outlet (R115). While IN_FLIGHT, the frame sent, and whether it is the queue's head or a POLL. -/
inductive Channel where
  | idle
  | inFlight (fromQueue : Bool) (frame : List Byte)
  deriving DecidableEq, Repr

/-- Whether the expiry of a lease that has run out is still to be taken (R107, log 6), and whether a grant boundary has been taken
since it ran out, in which case it no longer acts on the reduction-pending set (R108, log 21). -/
inductive LeaseDue where
  | none
  | due
  | afterBoundary
  deriving DecidableEq, Repr

/-- The session record of an outlet (06, section 6.2). `lastEnd` is the end of the last exchange and `lastPoll` the time the last
POLL was sent, in milliseconds. -/
structure Session where
  state : SessionState
  cameFrom : Option CameFrom
  tag : Option Tag
  profile : Option SlotNo
  cause : Option UnmatchedCause
  endReason : Option EndReason
  misses : Nat
  lastReport : Option Report
  energyRef : Option Nat
  acked : Option Acknowledged
  lease : Nat
  leaseDue : LeaseDue
  overdraw : Nat
  sent : List SentRecord
  queue : List QueueRecord
  channel : Channel
  lastEnd : Option Nat
  lastPoll : Option Nat
  deriving DecidableEq, Repr

/-- One outlet's row of the released-grant table (05, section 5.4). -/
structure GrantRow where
  released : Nat
  lastSeq : Seq
  nextSeq : Seq
  deferred : Option Nat
  mark : Option Seq
  deriving DecidableEq, Repr

/-- One outlet: plug filter, session, grants, and the residual lease of quiesce control with its expiry still to be taken
(R169, log 6). -/
structure Outlet where
  plug : Filter
  session : Session
  grants : GrantRow
  residual : Nat
  residualDue : Bool
  deriving DecidableEq, Repr

/-! ## Arbiter settings, shedding, quiesce, notices -/

/-- The Arbiter's settings and interval timer (05, sections 5.1 and 5.2). `boundaryDue`: the timer has expired and its boundary is
still to be taken (log 6). -/
structure Arbiter where
  pendingAllowance : Nat
  activeAllowance : Nat
  pendingInterval : Nat
  activeInterval : Nat
  secondsLeft : Nat
  boundaryDue : Bool
  deriving DecidableEq, Repr

/-- The Shed Input (08, section 8.1). -/
structure Shed where
  filter : Filter
  latch : Bool
  deriving DecidableEq, Repr

/-- The quiesce state (08, section 8.4). -/
inductive Quiesce where
  | none
  | quiescing
  | quiesced
  deriving DecidableEq, Repr

/-- The thirteen notice classes in the order of 09, section 9.1. -/
inductive NoticeClass where
  | outcomeReady
  | outcomeLost
  | vehicleIdentified
  | vehicleUnmatched
  | linkLost
  | overdraw
  | planUnreachable
  | shedEntered
  | shedReleased
  | quiesceDone
  | clockFallback
  | clockUnset
  | outdoorStale
  deriving DecidableEq, Repr

/-- A set of notice classes, bit k for the k-th class (R201). -/
abbrev NoticeSet := BitVec 13

/-- The Notice Unit: the three marks of every class (R173) and the attention line, true when asserted (R174). -/
structure Notices where
  pending : NoticeSet
  reported : NoticeSet
  enabled : NoticeSet
  attention : Bool
  deriving DecidableEq, Repr

/-! ## The Site Link Port (10) -/

/-- The receiver (R182). LENGTH has the SYNC byte behind it; BODY holds LEN and the bytes of TYPE and payload so far; CHECK holds
LEN, the whole body and the first CRC byte once it has come. -/
inductive Receiver where
  | hunt
  | length
  | body (len : Byte) (bytes : List Byte)
  | check (len : Byte) (bytes : List Byte) (crcHigh : Option Byte)
  deriving DecidableEq, Repr

/-- A complete request: its TYPE and payload (R184). -/
structure Request where
  ty : Byte
  payload : List Byte
  deriving DecidableEq, Repr

/-- The phase of the current request (R187). `processed`: PROCESSING, the block has taken its effect and supplied the reply's payload,
and the reply is still to be formed (log 4); `replying`: REPLYING. -/
inductive Phase where
  | processed (reply : List Byte)
  | replying
  deriving DecidableEq, Repr

/-- The request being answered. -/
structure Current where
  request : Request
  phase : Phase
  deriving DecidableEq, Repr

/-- A frame formed for the host: the reply of the current request, or a BUSY answer (R186, R187). -/
structure OutFrame where
  isReply : Bool
  ty : Byte
  payload : List Byte
  deriving DecidableEq, Repr

/-- The Site Link Port (10). `lastByteAt` is the time of the last byte received, from which the gap is timed (R183), in milliseconds;
`outbox` holds the frames formed and not yet being sent, oldest first; `sending` is the frame of the transmitter, none when IDLE. -/
structure Port where
  receiver : Receiver
  lastByteAt : Nat
  current : Option Current
  held : Option Request
  outbox : List OutFrame
  sending : Option OutFrame
  discards : Nat
  deriving DecidableEq, Repr

/-! ## The whole state -/

/-- What the events of the cabinet act on together: the book with its outcomes, the outlets, the quiesce state, the notices, and
the counter of free values taken (log 16). -/
structure Cabinet where
  book : List Entry
  outcomes : List OutcomeRecord
  nextSerial : Serial
  outlets : Eight Outlet
  quiesce : Quiesce
  notices : Notices
  freeCount : Nat
  deriving DecidableEq, Repr

/-- The state of the part. `ms` is the greatest time a command has named (log 8); `pending` the commands waiting (log 1). -/
structure State where
  pending : List Instr
  supply : Supply
  clock : TimeBase
  planner : Planner
  profiles : Sixteen (Option Profile)
  arbiter : Arbiter
  shed : Shed
  cab : Cabinet
  port : Port
  ms : Nat
  deriving DecidableEq, Repr

/-! ## Reset values -/

/-- The Time Base after a backup loss (R156). -/
def TimeBase.afterBackupLoss : TimeBase :=
  { depotTime := 0, calendar := .unset, source := .crystal, u := 0, passCount := 0, lastWindow := none }

/-- The Planner after a main reset (R64). -/
def Planner.afterReset : Planner :=
  { outdoorState := .unknown, outdoor := none, outdoorClamped := false, outdoorAge := 0, baseMargin := 120 }

/-- The Arbiter's settings and timer after a main reset (R110). -/
def Arbiter.afterReset : Arbiter :=
  { pendingAllowance := 0, activeAllowance := 0, pendingInterval := 10, activeInterval := 10, secondsLeft := 10,
    boundaryDue := false }

/-- A session in EMPTY with every field cleared (R137). -/
def Session.cleared : Session :=
  { state := .empty, cameFrom := none, tag := none, profile := none, cause := none, endReason := none, misses := 0,
    lastReport := none, energyRef := none, acked := none, lease := 0, leaseDue := .none, overdraw := 0, sent := [],
    queue := [], channel := .idle, lastEnd := none, lastPoll := none }

/-- A filter whose level is deasserted and whose run is empty (R112, R158). -/
def Filter.deasserted : Filter := { asserted := false, run := 0 }

/-- An outlet after a main reset (R110, R137, R170). -/
def Outlet.afterReset : Outlet :=
  { plug := .deasserted, session := .cleared,
    grants := { released := 0, lastSeq := 0, nextSeq := 0, deferred := none, mark := none },
    residual := 0, residualDue := false }

/-- The enabled set after a main reset: every class but VEHICLE_IDENTIFIED (09, section 9.1). -/
def NoticeSet.defaultEnabled : NoticeSet := 0x1FFB

/-- The port after a main reset (R199). -/
def Port.afterReset : Port :=
  { receiver := .hunt, lastByteAt := 0, current := none, held := none, outbox := [], sending := none, discards := 0 }

/-- The machine right after first power-on: the Time Base as a backup loss leaves it (R156), everything else as the main reset that
always follows leaves it, with CLOCK_UNSET raised at that reset's end (R157, R179; log 2). -/
def State.reset : State :=
  { pending := []
    supply := .main
    clock := .afterBackupLoss
    planner := .afterReset
    profiles := .all none
    arbiter := .afterReset
    shed := { filter := .deasserted, latch := false }
    cab :=
      { book := [], outcomes := [], nextSerial := 0, outlets := .all .afterReset, quiesce := .none,
        notices := { pending := 0x0800, reported := 0, enabled := .defaultEnabled, attention := true }
        freeCount := 0 }
    port := .afterReset
    ms := 0 }

end Sys2Proof.Machine
end

