-- ==== Sys2Proof/Machine/Operands.lean ====
section
/-!
DEFINITION. The forms of fields on the links (R200 to R207): byte order, optional fields, enumeration codes, the CRC, and
the frames, as they are sent and as they are received on an outlet link.
-/

namespace Sys2Proof.Machine

/-! ## Reading a payload -/

/-- The byte at offset `i` (0 past the end; the callers judge the length first, R187). -/
def byteAt (p : List Byte) (i : Nat) : Byte := p.getD i 0

/-- The unsigned one-byte number at offset `i`. -/
def u8At (p : List Byte) (i : Nat) : Nat := (byteAt p i).toNat

/-- The unsigned two-byte number at offset `i`, high byte first (R201). -/
def u16At (p : List Byte) (i : Nat) : Nat := u8At p i * 256 + u8At p (i + 1)

/-- The unsigned four-byte number at offset `i`, high byte first (R201). -/
def u32At (p : List Byte) (i : Nat) : Nat := u16At p i * 65536 + u16At p (i + 2)

/-- A 16-bit number read in two's complement (R201). -/
def signed16 (n : Nat) : Int := if n < 32768 then (n : Int) else (n : Int) - 65536

/-- The signed two-byte number at offset `i` (R201). -/
def s16At (p : List Byte) (i : Nat) : Int := signed16 (u16At p i)

/-- A character a tag may hold: 0x21..0x7E (R11, R120). -/
def tagCharOk (b : Byte) : Bool := 0x21 ≤ b.toNat && b.toNat ≤ 0x7E

/-- The tag in the 13 bytes at offset `i`: a length byte, then characters; only those within the length are examined (R201).
None when the length is outside 1..12 or a character outside 0x21..0x7E. -/
def tagAt (p : List Byte) (i : Nat) : Option Tag :=
  let len := u8At p i
  let chars := (p.drop (i + 1)).take len
  if 1 ≤ len && len ≤ 12 && chars.length = len && chars.all tagCharOk then some chars else none

/-! ## Writing fields -/

/-- A one-byte number. -/
def enc8 (n : Nat) : List Byte := [BitVec.ofNat 8 n]

/-- A two-byte number, high byte first. -/
def enc16 (n : Nat) : List Byte := [BitVec.ofNat 8 (n / 256), BitVec.ofNat 8 n]

/-- A four-byte number, high byte first. -/
def enc32 (n : Nat) : List Byte := enc16 (n / 65536) ++ enc16 (n % 65536)

/-- A signed two-byte number in two's complement. -/
def encS16 (z : Int) : List Byte := enc16 (z % 65536).toNat

/-- A signed four-byte number in two's complement. -/
def encS32 (z : Int) : List Byte := enc32 (z % 4294967296).toNat

/-- `n` bytes of 0xFF, as an absent group or field is sent (R201). -/
def absentBytes (n : Nat) : List Byte := List.replicate n 0xFF

/-- A mark: 0x00 clear, 0x01 set (R201). -/
def encMark (b : Bool) : List Byte := [if b then 1 else 0]

/-- An optional one-byte number: the value, or 0xFF (R201). -/
def encOpt8 (n : Option Nat) : List Byte :=
  match n with
  | some v => enc8 v
  | none => [0xFF]

/-- An optional two-byte number that is sent as 0xFF 0xFF when absent (R205, R207). -/
def encOpt16 (n : Option Nat) : List Byte :=
  match n with
  | some v => enc16 v
  | none => absentBytes 2

/-- An optional temperature: the signed value, or 0x8000 (R201). -/
def encTemp (t : Option Int) : List Byte :=
  match t with
  | some v => encS16 v
  | none => [0x80, 0x00]

/-- A tag in a reply: a length byte and 12 characters, 0x00 after the tag (R201); no tag is length 0 (R207). -/
def encTag (t : Tag) : List Byte := enc8 t.length ++ (t ++ List.replicate (12 - t.length) 0).take 12

/-- A string of a reply: its length byte and its characters (R205). -/
def encString (chars : List Nat) : List Byte := enc8 chars.length ++ chars.map (BitVec.ofNat 8)

/-! ## Enumeration codes (R201) -/

/-- Status codes (R191, R201). -/
inductive Status where
  | ok
  | busy
  | badLength
  | unknownType
  | outOfRange
  | full
  | duplicate
  | notFound
  | inUse
  | tooLate
  | noOccurrence
  | shedActive
  deriving DecidableEq, Repr

/-- The code of a status (R201). -/
def statusCode : Status → Byte
  | .ok => 0x00
  | .busy => 0x01
  | .badLength => 0x02
  | .unknownType => 0x03
  | .outOfRange => 0x04
  | .full => 0x05
  | .duplicate => 0x06
  | .notFound => 0x07
  | .inUse => 0x08
  | .tooLate => 0x09
  | .noOccurrence => 0x0A
  | .shedActive => 0x0B

/-- The code of an entry's kind. -/
def kindCode : Booking → Byte
  | .oneShot _ => 0x01
  | .recurring _ => 0x02

/-- The code of an entry state. -/
def entryStateCode : EntryState → Nat
  | .booked => 0
  | .waiting => 1
  | .warming => 2
  | .holding => 3

/-- The code of a readiness. -/
def readinessCode : Readiness → Byte
  | .ready => 0x00
  | .short => 0x01
  | .absent => 0x02
  | .faulted => 0x03
  | .skipped => 0x04

/-- The code of an end cause. -/
def endCauseCode : EndCause → Byte
  | .graceExpired => 0x00
  | .notPresent => 0x01
  | .left => 0x02
  | .linkLost => 0x03
  | .fault => 0x04
  | .skipped => 0x05
  | .superseded => 0x06

/-- The code of a session state. -/
def sessionStateCode : SessionState → Byte
  | .empty => 0x00
  | .awaitingHello => 0x01
  | .identified => 0x02
  | .unmatched => 0x03
  | .stale => 0x04
  | .closed => 0x05
  | .faulted => 0x06

/-- The came-from field, sent as a session state (R207). -/
def cameFromCode : CameFrom → Byte
  | .identified => 0x02
  | .unmatched => 0x03

/-- The code of an unmatched cause. -/
def causeCode : UnmatchedCause → Byte
  | .unknownTag => 0x00
  | .noProfile => 0x01
  | .tagConflict => 0x02
  | .badHello => 0x03

/-- The code of an end reason. -/
def endReasonCode : EndReason → Byte
  | .bye => 0x00
  | .linkLost => 0x01
  | .overdraw => 0x02

/-- The code of a calendar state. -/
def calendarCode : CalendarState → Byte
  | .unset => 0x00
  | .trueTime => 0x01
  | .drifting => 0x02

/-- The code of a seconds source. -/
def sourceCode : SecondsSource → Byte
  | .crystal => 0x00
  | .internal => 0x01

/-- The code of an outdoor state. -/
def outdoorCode : OutdoorState → Byte
  | .unknown => 0x00
  | .fresh => 0x01
  | .aged => 0x02

/-- The code of a quiesce state. -/
def quiesceCode : Quiesce → Byte
  | .none => 0x00
  | .quiescing => 0x01
  | .quiesced => 0x02

/-- Outlet-link record kinds that the part sends (R201). -/
def kindPoll : Byte := 0x10

/-- The kind of a WELCOME. -/
def kindWelcome : Byte := 0x11

/-- The kind of a GRANT. -/
def kindGrant : Byte := 0x12

/-- The kind of a STOP. -/
def kindStop : Byte := 0x13

/-- Outlet-link record kinds that the part receives (R201). -/
def kindHello : Byte := 0x20

/-- The kind of a REPORT. -/
def kindReport : Byte := 0x21

/-- The kind of a BYE. -/
def kindBye : Byte := 0x22

/-! ## The CRC (R184, R204) -/

/-- One bit of the CRC with polynomial 0x1021, most significant bit first. -/
def crcBit (crc : BitVec 16) : BitVec 16 :=
  if crc.msb then (crc <<< 1) ^^^ 0x1021 else crc <<< 1

/-- One byte of the CRC. -/
def crcByte (crc : BitVec 16) (b : Byte) : BitVec 16 :=
  let x := crc ^^^ (b.setWidth 16 <<< 8)
  crcBit (crcBit (crcBit (crcBit (crcBit (crcBit (crcBit (crcBit x)))))))

/-- The CRC of a run of bytes: initial value 0xFFFF, neither reflected nor inverted. -/
def crc16 (bytes : List Byte) : BitVec 16 := bytes.foldl crcByte 0xFFFF

/-- Bytes followed by their CRC, high byte first. -/
def withCrc (bytes : List Byte) : List Byte := bytes ++ enc16 (crc16 bytes).toNat

/-- A site-link frame: SYNC, LEN, TYPE, payload and the CRC over LEN, TYPE and payload (R182, R200). -/
def siteFrame (ty : Byte) (payload : List Byte) : List Byte :=
  0xC3 :: withCrc (BitVec.ofNat 8 (payload.length + 1) :: ty :: payload)

/-- An outlet-link frame: SYNC, KIND, LEN, payload and the CRC over KIND, LEN and payload (R204). -/
def outletFrame (kind : Byte) (payload : List Byte) : List Byte :=
  0xA5 :: withCrc (kind :: BitVec.ofNat 8 payload.length :: payload)

/-! ## Receiving on an outlet link (R204) -/

/-- What the bytes received in an exchange make (R204): no complete frame yet, a frame that ends the exchange as a miss (a LEN above 16
or a CRC that does not match), or a frame with a good CRC. -/
inductive Heard where
  | incomplete
  | bad
  | frame (kind : Byte) (payload : List Byte)
  deriving DecidableEq, Repr

/-- The CRC bytes received match the frame they end (R204). -/
def outletCrcOk (kind len : Byte) (payload crc : List Byte) : Bool := (crc16 (kind :: len :: payload)).toNat = u16At crc 0

/-- The bytes received in an exchange assembled (R204): they are discarded until a 0xA5, and the frame behind it is counted by its LEN
and judged by its CRC. What follows the frame is discarded (R116). -/
def heardFrame (bytes : List Byte) : Heard :=
  match bytes.dropWhile (fun b => b != 0xA5) with
  | _ :: kind :: len :: rest =>
    if Config.recordCapacity < len.toNat then .bad
    else if rest.length < len.toNat + 2 then .incomplete
    else if outletCrcOk kind len (rest.take len.toNat) (rest.drop len.toNat) then .frame kind (rest.take len.toNat)
    else .bad
  | _ => .incomplete

end Sys2Proof.Machine
end

