-- ==== Sys2Proof/Machine/Calendar.lean ====
section
/-!
DEFINITION. The calendar: depot time and its broken-down form (R138 to R140), and the next-occurrence search (R6, R7).
-/

namespace Sys2Proof.Machine

/-- Seconds of a day. -/
def daySeconds : Nat := 86400

/-- Every year divisible by 4 within 2000..2099 is a leap year (R139). -/
def isLeap (year : Nat) : Bool := year % 4 = 0

/-- The length of a month in a year (R139); 0 for a month outside 1..12. -/
def monthLength (year month : Nat) : Nat :=
  match month with
  | 1 => 31
  | 2 => if isLeap year then 29 else 28
  | 3 => 31
  | 4 => 30
  | 5 => 31
  | 6 => 30
  | 7 => 31
  | 8 => 31
  | 9 => 30
  | 10 => 31
  | 11 => 30
  | 12 => 31
  | _ => 0

/-- The calendar form of a depot time (07, section 7.1), but for the weekday, which is derived. -/
structure CalendarTime where
  year : Nat
  month : Nat
  day : Nat
  hour : Nat
  minute : Nat
  second : Nat
  deriving DecidableEq, Repr

/-- Days from 2000-01-01 to January 1st of `year`, for a year of the span. -/
def daysBeforeYear (year : Nat) : Nat := 365 * (year - 2000) + (year - 2000 + 3) / 4

/-- Days of `year` before its month `month`. -/
def daysBeforeMonth (year month : Nat) : Nat :=
  match month with
  | 2 => 31
  | 3 => 59 + (if isLeap year then 1 else 0)
  | 4 => 90 + (if isLeap year then 1 else 0)
  | 5 => 120 + (if isLeap year then 1 else 0)
  | 6 => 151 + (if isLeap year then 1 else 0)
  | 7 => 181 + (if isLeap year then 1 else 0)
  | 8 => 212 + (if isLeap year then 1 else 0)
  | 9 => 243 + (if isLeap year then 1 else 0)
  | 10 => 273 + (if isLeap year then 1 else 0)
  | 11 => 304 + (if isLeap year then 1 else 0)
  | 12 => 334 + (if isLeap year then 1 else 0)
  | _ => 0

/-- The depot time of a calendar value (R140). -/
def depotTimeOf (c : CalendarTime) : Nat :=
  (daysBeforeYear c.year + daysBeforeMonth c.year c.month + (c.day - 1)) * daySeconds
    + c.hour * 3600 + c.minute * 60 + c.second

/-- The year that holds day number `d` counted from 2000-01-01, and the day's number within it from 0. Four years are 1,461 days,
the first of them the leap year (R139). -/
def yearOfDay (d : Nat) : Nat × Nat :=
  let cycle := d / 1461
  let r := d % 1461
  if r < 366 then (2000 + 4 * cycle, r)
  else (2000 + 4 * cycle + 1 + (r - 366) / 365, (r - 366) % 365)

/-- The month and day of month of the day with number `n` (from 0) in `year`, found by going through `fuel` months from `month`. -/
def monthOfDay (year : Nat) : (fuel month n : Nat) → Nat × Nat
  | 0, month, n => (month, n + 1)
  | fuel + 1, month, n =>
    if n < monthLength year month then (month, n + 1)
    else monthOfDay year fuel (month + 1) (n - monthLength year month)

/-- The calendar form of a depot time (R140). -/
def calendarTimeOf (t : Nat) : CalendarTime :=
  let y := yearOfDay (t / daySeconds)
  let md := monthOfDay y.1 11 1 y.2
  let s := t % daySeconds
  { year := y.1, month := md.1, day := md.2, hour := s / 3600, minute := s % 3600 / 60, second := s % 60 }

/-- The weekday of day number `d`, 0 Monday to 6 Sunday: 2000-01-01 is a Saturday (R139). -/
def weekdayOfDay (d : Nat) : Nat := (d + 5) % 7

/-- The weekday of a depot time. -/
def weekdayOf (t : Nat) : Nat := weekdayOfDay (t / daySeconds)

/-- A calendar value a SET_CLOCK may carry (R150). -/
def CalendarTime.valid (c : CalendarTime) : Bool :=
  2000 ≤ c.year && c.year ≤ 2099 && 1 ≤ c.month && c.month ≤ 12 && 1 ≤ c.day && c.day ≤ monthLength c.year c.month
    && c.hour ≤ 23 && c.minute ≤ 59 && c.second ≤ 59

/-- Whether the optional parts of a pattern match the date with day number `d` (R6). -/
def Pattern.matchesDay (p : Pattern) (d : Nat) : Bool :=
  let y := yearOfDay d
  let md := monthOfDay y.1 11 1 y.2
  (p.weekdays == 0 || p.weekdays.getLsbD (weekdayOfDay d))
    && (match p.day with | some v => v == md.2 | none => true)
    && (match p.month with | some v => v == md.1 | none => true)

/-- Whether the minute that holds depot time `t` matches a pattern (R6). -/
def Pattern.matchesMinute (p : Pattern) (t : Nat) : Bool :=
  let c := calendarTimeOf t
  p.minute == c.minute && p.hour == c.hour && p.matchesDay (t / daySeconds)

/-- The first of `fuel` days from day `d` on that holds a departure of the pattern after `ref` and no later than `limit`: a
pattern names one minute of a day, so each day has one time to look at. -/
def Pattern.searchDays (p : Pattern) (ref limit : Nat) : (fuel d : Nat) → Option Nat
  | 0, _ => none
  | fuel + 1, d =>
    let t := d * daySeconds + p.hour * 3600 + p.minute * 60
    if ref < t ∧ t ≤ limit ∧ p.matchesDay d = true then some t else p.searchDays ref limit fuel (d + 1)

/-- The next-occurrence search (R7): the earliest matching minute strictly after `ref`, no later than 1,461 days after it and no
later than 2099-12-31 23:59:00. The days from that of `ref` to the horizon are 1,462. -/
def Pattern.nextOccurrence (p : Pattern) (ref : Nat) : Option Nat :=
  p.searchDays ref (min (ref + Config.searchHorizon) Config.lastMinute) 1462 (ref / daySeconds)

/-- The search repeated past the times of `taken` (R8): a result that is another entry's next departure becomes the reference of
the next search. Each repeat passes one of `taken`, so `fuel` above its length is enough. -/
def Pattern.nextFree (p : Pattern) (taken : List Nat) : (fuel ref : Nat) → Option Nat
  | 0, _ => none
  | fuel + 1, ref =>
    match p.nextOccurrence ref with
    | none => none
    | some t => if taken.contains t then p.nextFree taken fuel t else some t

end Sys2Proof.Machine
end

