-- ==== Sys2Proof/Machine/Flags.lean ====
section
/-!
DEFINITION. Sets of flags: the notice marks and the attention line (R173 to R177), and the planning conditions (R201).
-/

namespace Sys2Proof.Machine

/-- The place of a class in every notice set (09, section 9.1; R201). -/
def NoticeClass.index : NoticeClass → Nat
  | .outcomeReady => 0
  | .outcomeLost => 1
  | .vehicleIdentified => 2
  | .vehicleUnmatched => 3
  | .linkLost => 4
  | .overdraw => 5
  | .planUnreachable => 6
  | .shedEntered => 7
  | .shedReleased => 8
  | .quiesceDone => 9
  | .clockFallback => 10
  | .clockUnset => 11
  | .outdoorStale => 12

/-- The set that holds one class. -/
def NoticeClass.bit (c : NoticeClass) : NoticeSet := 1 <<< c.index

/-- The attention line follows the marks: asserted exactly when some class is pending and enabled (R174). -/
def Notices.follow (n : Notices) : Notices := { n with attention := n.pending &&& n.enabled != 0 }

/-- Raising a class sets its pending mark and clears its reported mark (R173). -/
def Notices.raise (n : Notices) (c : NoticeClass) : Notices :=
  { n with pending := n.pending ||| c.bit, reported := n.reported &&& ~~~c.bit }.follow

/-- READ_NOTICES marks every pending class reported (R175). -/
def Notices.markReported (n : Notices) : Notices := { n with reported := n.pending }

/-- The classes an ACK_NOTICES of `set` clears: those pending and reported (R176). -/
def Notices.cleared (n : Notices) (set : NoticeSet) : NoticeSet := set &&& n.pending &&& n.reported

/-- ACK_NOTICES clears both marks of those classes (R176). -/
def Notices.acknowledge (n : Notices) (set : NoticeSet) : Notices :=
  { n with pending := n.pending &&& ~~~(n.cleared set), reported := n.reported &&& ~~~(n.cleared set) }.follow

/-- SET_NOTICE_ENABLE replaces the enabled set (R177). -/
def Notices.enable (n : Notices) (set : NoticeSet) : Notices := { n with enabled := set }.follow

/-- The Notice Unit after a main reset (R179). -/
def Notices.afterReset : Notices :=
  { pending := 0, reported := 0, enabled := .defaultEnabled, attention := false }

/-! Planning conditions, each as the set that holds it alone (R201). -/

/-- INPUT_CLAMPED (R41, R42). -/
def condInputClamped : Conditions := 0x01

/-- OUTDOOR_DEFAULT (R45). -/
def condOutdoorDefault : Conditions := 0x02

/-- OUTDOOR_STALE (R45). -/
def condOutdoorStale : Conditions := 0x04

/-- FACTOR_CLAMPED (R51). -/
def condFactorClamped : Conditions := 0x08

/-- UNREACHABLE (R52). -/
def condUnreachable : Conditions := 0x10

/-- LEAD_CAPPED (R52, R56). -/
def condLeadCapped : Conditions := 0x20

/-- HOLD_LIMITED (R57). -/
def condHoldLimited : Conditions := 0x40

/-- DRIFT_MARGIN (R55). -/
def condDriftMargin : Conditions := 0x80

/-- The condition when it holds, the empty set otherwise. -/
def condWhen (b : Bool) (c : Conditions) : Conditions := if b then c else 0

end Sys2Proof.Machine
end

