-- ==== Sys2Proof/Machine/Planning.lean ====
section
/-!
DEFINITION. The Warm-Up Planner's computation of a plan in eight stages (R40 to R60), from its inputs alone. All divisions are by
positive numbers, for which `/` on integers rounds down (R47 to R57 say which stages round up).
-/

namespace Sys2Proof.Machine

/-- `a / b` rounded up, for a positive `b`. -/
def ceilDiv (a b : Int) : Int := -((-a) / b)

/-- The inputs of a plan (R40), with the cabin and outdoor temperatures as the plan uses them (R41, R45). -/
structure PlanInputs where
  cabin : Int
  outdoor : Int
  inputConditions : Conditions
  target : Int
  profile : Profile
  defrostSpent : Nat
  baseMargin : Nat
  drifting : Bool
  u : Nat
  departure : Nat
  now : Nat
  deriving DecidableEq, Repr

/-- The outdoor temperature a plan uses (R45). -/
def Planner.outdoorUsed (p : Planner) : Int :=
  match p.outdoorState with
  | .fresh => p.outdoor.getD (-300)
  | .aged => max (p.outdoor.getD (-300) - 50) (-500)
  | .unknown => -300

/-- The conditions of the outdoor value (R42, R45). -/
def Planner.outdoorConditions (p : Planner) : Conditions :=
  match p.outdoorState with
  | .fresh => condWhen p.outdoorClamped condInputClamped
  | .aged => condOutdoorStale ||| condWhen p.outdoorClamped condInputClamped
  | .unknown => condOutdoorDefault

/-- Stage 1: the deficit (R47). -/
def PlanInputs.deficit (i : PlanInputs) : Int := i.target - i.cabin

/-- Stage 2: the warm-up heat in kilojoules (R48); 0 at or above the target (R47). -/
def PlanInputs.warmHeat (i : PlanInputs) : Int :=
  if i.deficit ≤ 0 then 0 else ceilDiv (i.profile.heatCapacity * i.deficit) 10

/-- Stage 3: the mid-temperature, rounded down (R49). -/
def PlanInputs.midTemp (i : PlanInputs) : Int := (i.target + i.cabin) / 2

/-- Stage 3: the loss power in watts, rounded up, 0 when negative (R49). -/
def PlanInputs.lossPower (i : PlanInputs) : Int :=
  max 0 (ceilDiv (i.profile.lossCoefficient * (i.midTemp - i.outdoor)) 10)

/-- Interpolation between two points of the factor table, the quotient rounded down (R50). -/
def interpolate (a b : FactorPoint) (t : Int) : Int :=
  a.factor + (b.factor - a.factor) * (t - a.temp) / (b.temp - a.temp)

/-- Stage 4: the delivery factor at an outdoor temperature (R50, R51). -/
def Profile.factorAt (p : Profile) (t : Int) : Int :=
  if t < p.p0.temp then p.p0.factor
  else if p.p3.temp < t then p.p3.factor
  else if p.p2.temp ≤ t then interpolate p.p2 p.p3 t
  else if p.p1.temp ≤ t then interpolate p.p1 p.p2 t
  else interpolate p.p0 p.p1 t

/-- Whether an outdoor temperature lies outside the factor table's span (R51). -/
def Profile.outsideSpan (p : Profile) (t : Int) : Bool := t < p.p0.temp || p.p3.temp < t

/-- The delivery factor of the plan. -/
def PlanInputs.factor (i : PlanInputs) : Int := i.profile.factorAt i.outdoor

/-- Stage 5: the net heat power (R52). -/
def PlanInputs.netPower (i : PlanInputs) : Int := (i.profile.maxDraw : Int) * i.factor / 100 - i.lossPower

/-- UNREACHABLE: heat is needed and the unit cannot overcome the loss (R47, R52). -/
def PlanInputs.isUnreachable (i : PlanInputs) : Bool := 0 < i.deficit && i.netPower ≤ 0

/-- Stage 6: the warm seconds before their limit (R47, R52, R53). -/
def PlanInputs.warmFull (i : PlanInputs) : Int :=
  if i.deficit ≤ 0 then 0
  else if i.netPower ≤ 0 then Config.leadCap
  else ceilDiv (i.warmHeat * 1000) i.netPower

/-- Stage 6: the defrost seconds remaining (R54). -/
def PlanInputs.defrostLeft (i : PlanInputs) : Nat :=
  if i.outdoor < 0 then i.profile.defrost - min i.defrostSpent i.profile.defrost else 0

/-- Stage 6: the drift margin (R55): u / 50 rounded up, limited to 600, while DRIFTING. -/
def PlanInputs.driftMargin (i : PlanInputs) : Nat := if i.drifting then min 600 ((i.u + 49) / 50) else 0

/-- Stage 6: the margin (R55). -/
def PlanInputs.margin (i : PlanInputs) : Nat := i.baseMargin + i.driftMargin

/-- Stage 6: the lead time before its cap (R56). -/
def PlanInputs.leadFull (i : PlanInputs) : Int := i.warmFull + i.defrostLeft + i.margin

/-- Stage 6: the lead time (R56). -/
def PlanInputs.leadTime (i : PlanInputs) : Nat := (min i.leadFull Config.leadCap).toNat

/-- Stage 7: the holding loss in watts, rounded up (R57). -/
def PlanInputs.holdingLoss (i : PlanInputs) : Int :=
  ceilDiv (i.profile.lossCoefficient * (i.target - i.outdoor)) 10

/-- Stage 7: the draw that replaces the holding loss, before its limits (R57). -/
def PlanInputs.holdFull (i : PlanInputs) : Int := ceilDiv (i.holdingLoss * 100) i.factor

/-- Stage 7: the hold power (R57). -/
def PlanInputs.holdPower (i : PlanInputs) : Nat :=
  if i.holdingLoss ≤ 0 then i.profile.minDraw
  else (min (max i.holdFull i.profile.minDraw) i.profile.maxDraw).toNat

/-- HOLD_LIMITED: the hold power was lowered to P_max (R57). -/
def PlanInputs.isHoldLimited (i : PlanInputs) : Bool := 0 < i.holdingLoss && (i.profile.maxDraw : Int) < i.holdFull

/-- The condition set of the plan (R60). -/
def PlanInputs.conditions (i : PlanInputs) : Conditions :=
  i.inputConditions
    ||| condWhen (i.profile.outsideSpan i.outdoor) condFactorClamped
    ||| condWhen i.isUnreachable condUnreachable
    ||| condWhen (i.isUnreachable || decide ((Config.leadCap : Int) < i.leadFull)) condLeadCapped
    ||| condWhen i.isHoldLimited condHoldLimited
    ||| condWhen i.drifting condDriftMargin

/-- Stage 6: the start time (R56). One that the lead time would put before the span is a free value of the span, no later than the
departure (R140; log 15). -/
def PlanInputs.start (i : PlanInputs) : Nat :=
  if i.leadTime ≤ i.departure then i.departure - i.leadTime
  else min i.departure (Config.startBeforeSpan i.departure i.leadTime)

/-- The plan (R47 to R60). -/
def PlanInputs.plan (i : PlanInputs) : Plan :=
  { start := i.start
    leadTime := i.leadTime
    warmSeconds := (min i.warmFull Config.leadCap).toNat
    defrostLeft := i.defrostLeft
    holdPower := i.holdPower
    slack := (i.departure : Int) - i.now - i.leadTime
    conditions := i.conditions
    fullDraw := i.profile.maxDraw }

/-- The demand of a lead: it follows the entry's state for as long as the plan stands (R58). -/
def Entry.demand (e : Entry) : Nat :=
  match e.plan, e.state with
  | some p, .warming => p.fullDraw
  | some p, .holding => p.holdPower
  | _, _ => 0

end Sys2Proof.Machine
end

