-- ==== Sys2Proof/Machine/Ops.lean ====
section
/-!
DEFINITION. The named operations over the state: reading and changing an outlet, an entry, a session; raising a notice; what the
cabinet's events read from the rest of the part.
-/

namespace Sys2Proof.Machine

/-- What the cabinet's events read and do not change: the Time Base, the Planner's inputs, the Profile Table, and the active
grant interval. -/
structure Env where
  clock : TimeBase
  planner : Planner
  profiles : Sixteen (Option Profile)
  interval : Nat
  deriving DecidableEq, Repr

/-- What the cabinet's events read of a state. -/
def State.env (s : State) : Env :=
  { clock := s.clock, planner := s.planner, profiles := s.profiles, interval := s.arbiter.activeInterval }

/-- The current depot time. -/
def Env.now (env : Env) : Nat := env.clock.depotTime

/-- Whether the calendar is set, TRUE or DRIFTING (R143). -/
def TimeBase.isSet (c : TimeBase) : Bool := c.calendar != .unset

/-- The lease of every record released: twice the active interval plus 5 seconds (R106). -/
def Env.lease (env : Env) : Nat := 2 * env.interval + 5

/-! ## Outlets -/

/-- Outlet `o`. -/
def Cabinet.outlet (c : Cabinet) (o : OutletNo) : Outlet := c.outlets.get o

/-- The session of outlet `o`. -/
def Cabinet.session (c : Cabinet) (o : OutletNo) : Session := (c.outlet o).session

/-- Outlet `o` changed by `f`. -/
def Cabinet.updOutlet (c : Cabinet) (o : OutletNo) (f : Outlet → Outlet) : Cabinet :=
  { c with outlets := c.outlets.set o (f (c.outlet o)) }

/-- The session of outlet `o` changed by `f`. -/
def Cabinet.updSession (c : Cabinet) (o : OutletNo) (f : Session → Session) : Cabinet :=
  c.updOutlet o fun out => { out with session := f out.session }

/-- The grant row of outlet `o` changed by `f`. -/
def Cabinet.updGrants (c : Cabinet) (o : OutletNo) (f : GrantRow → GrantRow) : Cabinet :=
  c.updOutlet o fun out => { out with grants := f out.grants }

/-- A session that is IDENTIFIED, or STALE having come from IDENTIFIED, holds the binding of its tag (R17). -/
def Session.holdsBinding (s : Session) : Bool :=
  s.state == .identified || (s.state == .stale && s.cameFrom == some .identified)

/-- The Arbiter releases records to IDENTIFIED and STALE sessions only (R101, R161). -/
def Session.takesGrants (s : Session) : Bool := s.state == .identified || s.state == .stale

/-- A session names the profile of the HELLO it accepted until it ends (R30). -/
def Session.names (s : Session) (p : SlotNo) : Bool :=
  s.profile == some p && (s.state == .identified || s.state == .unmatched || s.state == .stale)

/-- The slot is in use: a session that holds a binding names it (R33). -/
def Session.uses (s : Session) (p : SlotNo) : Bool := s.holdsBinding && s.profile == some p

/-- The profile that the session of outlet `o` names (R37). -/
def Cabinet.profileOf (env : Env) (c : Cabinet) (o : OutletNo) : Option Profile :=
  match (c.session o).profile with
  | some p => env.profiles.get p
  | none => none

/-! ## Notices -/

/-- A block raises a notice (R173). -/
def Cabinet.raise (c : Cabinet) (n : NoticeClass) : Cabinet := { c with notices := c.notices.raise n }

/-! ## The book -/

/-- The entry with number `n` (R2). -/
def Cabinet.entry? (c : Cabinet) (n : Nat) : Option Entry := c.book.find? fun e => e.number == n

/-- The entry with number `n` changed by `f`; the others as they were. -/
def Cabinet.updEntry (c : Cabinet) (n : Nat) (f : Entry → Entry) : Cabinet :=
  { c with book := c.book.map fun e => if e.number = n then f e else e }

/-- The book without the entry with number `n` (R1). -/
def Cabinet.removeEntry (c : Cabinet) (n : Nat) : Cabinet :=
  { c with book := c.book.filter fun e => e.number != n }

/-- An entry put into a book kept in entry-number order (log 30). -/
def insertByNumber (e : Entry) : List Entry → List Entry
  | [] => [e]
  | x :: rest => if e.number < x.number then e :: x :: rest else x :: insertByNumber e rest

/-- The lowest entry number that no entry holds (R2), none when all are held. -/
def Cabinet.lowestFree (c : Cabinet) : Option Nat :=
  (List.range Config.bookCapacity).find? fun n => !(c.book.any fun e => e.number == n)

/-- Whether an entry comes before another in departure order (R9): by next departure, ABSENT last, then by number. -/
def Entry.before (a b : Entry) : Bool :=
  match a.next, b.next with
  | some x, some y => x < y || (x == y && a.number ≤ b.number)
  | some _, none => true
  | none, some _ => false
  | none, none => a.number ≤ b.number

/-- Insertion into a list kept in the order `le`. -/
def insertSorted {α : Type} (le : α → α → Bool) (x : α) : List α → List α
  | [] => [x]
  | y :: rest => if le x y then x :: y :: rest else y :: insertSorted le x rest

/-- A list put in the order `le`, equal members in their order in the list. -/
def sortBy {α : Type} (le : α → α → Bool) : List α → List α
  | [] => []
  | x :: rest => insertSorted le x (sortBy le rest)

/-- The book in departure order (R9). -/
def Cabinet.bookOrder (c : Cabinet) : List Entry := sortBy Entry.before c.book

/-- Only a lead is WAITING, WARMING or HOLDING (R20). -/
def Entry.isLead (e : Entry) : Bool := e.state != .booked

/-- WARMING or HOLDING. -/
def Entry.isActive (e : Entry) : Bool := e.state == .warming || e.state == .holding

/-- The lead of outlet `o`: the entry bound there that is not BOOKED (R20). -/
def Cabinet.leadOf (c : Cabinet) (o : OutletNo) : Option Entry :=
  c.book.find? fun e => e.bound == some o && e.isLead

/-- The departure snapshot of an entry, held in its execution record. An entry that holds one is past its departure (R73). -/
def Entry.snapshot (e : Entry) : Option Snapshot :=
  match e.exec with
  | some x => x.snapshot
  | none => none

/-- An entry back in BOOKED: its plan is removed and its execution record kept (R3). -/
def Entry.toBooked (e : Entry) : Entry := { e with state := .booked, plan := none }

/-- The earlier of two entries by next departure. -/
def earlierEntry (a b : Entry) : Entry := if b.before a && !(a.before b) then b else a

/-- The entry that comes first in departure order among those with a next departure. -/
def earliest : List Entry → Option Entry
  | [] => none
  | e :: rest =>
    if e.next.isNone then earliest rest
    else match earliest rest with
      | some x => some (earlierEntry e x)
      | none => some e

/-! ## Moving time -/

/-- The state after a command that names the time `ms`: time does not run back (log 8). -/
def State.atTime (s : State) (ms : Nat) : State := { s with ms := max s.ms ms }

/-- The cabinet of a state changed by one of its events. -/
def State.onCabinet (s : State) (f : Env → Cabinet → Cabinet) : State := { s with cab := f s.env s.cab }

/-- An event of the main domain: without the main supply it reaches nothing (R155, log 13). -/
def State.onMain (s : State) (f : State → State) : State :=
  match s.supply with
  | .main => f s
  | .backupOnly => s
  | .none => s

end Sys2Proof.Machine
end

