-- ==== Sys2Proof/Machine/Queue.lean ====
section
/-!
DEFINITION. The outbound queue of an outlet and its channel (R115, R122, R125, R132 to R135).
-/

namespace Sys2Proof.Machine

/-- The record is a GRANT. -/
def QueueRecord.isGrant (r : QueueRecord) : Bool :=
  match r.body with
  | .grant _ _ _ => true
  | .stop _ _ => false
  | .welcome _ _ => false

/-- The record is a STOP. -/
def QueueRecord.isStop (r : QueueRecord) : Bool :=
  match r.body with
  | .stop _ _ => true
  | .grant _ _ _ => false
  | .welcome _ _ => false

/-- The record is a WELCOME. -/
def QueueRecord.isWelcome (r : QueueRecord) : Bool :=
  match r.body with
  | .welcome _ _ => true
  | .grant _ _ _ => false
  | .stop _ _ => false

/-- A record as it is placed: live and not transmitted yet. -/
def QueueRecord.fresh (b : QueueBody) : QueueRecord := { body := b, stale := false, sent := false }

/-- The record made stale (R132). -/
def QueueRecord.makeStale (r : QueueRecord) : QueueRecord := { r with stale := true }

/-- A live GRANT. -/
def QueueRecord.liveGrant (r : QueueRecord) : Bool := r.isGrant && !r.stale

/-- A live STOP. -/
def QueueRecord.liveStop (r : QueueRecord) : Bool := r.isStop && !r.stale

/-- A live WELCOME. -/
def QueueRecord.liveWelcome (r : QueueRecord) : Bool := r.isWelcome && !r.stale

/-- Whether the channel has the queue's head in flight (R115). -/
def Session.headInFlight (s : Session) : Bool :=
  match s.channel with
  | .inFlight fromQueue _ => fromQueue
  | .idle => false

/-- The record in flight, as a list of at most one. -/
def Session.flying (s : Session) : List QueueRecord := if s.headInFlight then s.queue.take 1 else []

/-- The records not in flight. -/
def Session.ground (s : Session) : List QueueRecord := if s.headInFlight then s.queue.drop 1 else s.queue

/-- The records not in flight that a placement finds: from a queue that holds 4 records the stale ones are removed first (R135). -/
def Session.roomyGround (s : Session) : List QueueRecord :=
  if Config.queueCapacity ≤ s.queue.length then s.ground.filter (fun r => !r.stale) else s.ground

/-- The first record that satisfies `p` replaced by `new`. -/
def replaceFirst (p : QueueRecord → Bool) (new : QueueRecord) : List QueueRecord → List QueueRecord
  | [] => []
  | r :: rest => if p r then new :: rest else r :: replaceFirst p new rest

/-- The records behind the first live STOP, with every GRANT among them made stale (R134). -/
def staleBehindStop : List QueueRecord → List QueueRecord
  | [] => []
  | r :: rest =>
    if r.liveStop then r :: rest.map (fun q => if q.isGrant then q.makeStale else q)
    else r :: staleBehindStop rest

/-- Placing a WELCOME (R122): it replaces a live one that is not in flight, or goes to the tail; one in flight becomes stale. -/
def Session.placeWelcome (s : Session) (b : QueueBody) : Session :=
  let flying := s.flying.map fun r => if r.isWelcome then r.makeStale else r
  let ground := s.roomyGround
  { s with
    queue := flying ++
      (if ground.any QueueRecord.liveWelcome then replaceFirst QueueRecord.liveWelcome (.fresh b) ground
       else ground ++ [.fresh b]) }

/-- Placing a GRANT (R133): it replaces the live GRANT that is not in flight, or goes to the tail; one in flight becomes stale. DEDUCED
(log 19): a GRANT replaced after a miss has been transmitted, so its number stays in the sent list (R125); R133 and R100 say of one
replaced that it is never sent. -/
def Session.placeGrant (s : Session) (seq : Seq) (watts lease : Nat) : Session :=
  let flying := s.flying.map fun r => if r.isGrant then r.makeStale else r
  let ground := s.roomyGround
  let new := QueueRecord.fresh (.grant seq watts lease)
  { s with
    queue := flying ++
      (if ground.any QueueRecord.liveGrant then replaceFirst QueueRecord.liveGrant new ground else ground ++ [new]) }

/-- Placing a STOP (R134): it merges into a STOP that is not in flight, or goes ahead of every record not in flight; a GRANT or
STOP in flight becomes stale, and so does every GRANT behind it. -/
def Session.placeStop (s : Session) (seq : Seq) (lease : Nat) : Session :=
  let flying := s.flying.map fun r => if r.isGrant || r.isStop then r.makeStale else r
  let ground := s.roomyGround
  let new := QueueRecord.fresh (.stop seq lease)
  { s with
    queue := flying ++ staleBehindStop
      (if ground.any QueueRecord.liveStop then replaceFirst QueueRecord.liveStop new ground else new :: ground) }

/-- The queue without the stale records at its head: they are removed unsent when the channel takes the head (R115, R132). -/
def dropStale : List QueueRecord → List QueueRecord
  | [] => []
  | r :: rest => if r.stale then dropStale rest else r :: rest

/-- The payload and kind of a queued record as it is sent (R204). -/
def QueueBody.frame : QueueBody → List Byte
  | .welcome tag cause =>
    outletFrame kindWelcome
      ((match cause with
        | none => [0x00, 0xFF]
        | some c => [0x01, causeCode c]) ++ encTag (tag.getD []))
  | .grant seq watts lease => outletFrame kindGrant (enc16 seq.toNat ++ enc16 watts ++ enc8 lease)
  | .stop seq lease => outletFrame kindStop (enc16 seq.toNat ++ enc8 lease)

/-- The record as the sent list keeps it: GRANT and STOP records only (R125). -/
def QueueBody.sentRecord : QueueBody → Option SentRecord
  | .welcome _ _ => none
  | .grant seq watts lease => some { seq := seq, watts := watts, lease := lease }
  | .stop seq lease => some { seq := seq, watts := 0, lease := lease }

/-- A record added to the sent list; beyond four the oldest is dropped (R125). -/
def addSent (sent : List SentRecord) (r : SentRecord) : List SentRecord :=
  let l := sent ++ [r]
  if Config.sentCapacity < l.length then l.drop 1 else l

/-- The channel sends the queue's head `r` with `rest` behind it: a GRANT or STOP not sent before joins the sent list (R115,
R125). -/
def Session.sendHead (s : Session) (r : QueueRecord) (rest : List QueueRecord) : Session :=
  { s with
    queue := { r with sent := true } :: rest
    sent := (match r.sent, r.body.sentRecord with
      | false, some x => addSent s.sent x
      | _, _ => s.sent)
    channel := .inFlight true r.body.frame }

/-- The session's state is one in which the channel sends records (R115). -/
def Session.speaks (s : Session) : Bool :=
  s.state == .awaitingHello || s.state == .identified || s.state == .unmatched || s.state == .stale

/-- The wait since the end of the last exchange has passed (R115). -/
def Session.waitOver (s : Session) (now : Nat) : Bool :=
  match s.lastEnd with
  | some t => t + Config.exchangeWait ≤ now
  | none => true

/-- The poll spacing of a state, in milliseconds (R115). -/
def SessionState.pollSpacing (st : SessionState) : Nat :=
  match st with
  | .awaitingHello => 1000
  | .stale => 1000
  | .identified => 2000
  | .unmatched => 2000
  | .empty => 2000
  | .closed => 2000
  | .faulted => 2000

/-- The poll spacing has passed since the last POLL was sent (R115). -/
def Session.pollDue (s : Session) (now : Nat) : Bool :=
  match s.lastPoll with
  | some t => t + s.state.pollSpacing ≤ now
  | none => true

/-- The channel is IDLE in a state that speaks, and the wait is over (R115). -/
def Session.maySend (s : Session) (now : Nat) : Bool := s.speaks && s.channel == .idle && s.waitOver now

/-- SEND_QUEUED_RECORD on a session: stale heads are discarded and the head is sent (R115, R132). When nothing is left the
channel stays IDLE. -/
def Session.sendQueued (s : Session) (now : Nat) : Session :=
  if s.maySend now then
    match dropStale s.queue with
    | r :: rest => s.sendHead r rest
    | [] => { s with queue := [] }
  else s

/-- A POLL is sent: it is never placed in the queue (R115). -/
def Session.sendPoll (s : Session) (now : Nat) : Session :=
  { s with channel := .inFlight false (outletFrame kindPoll []), lastPoll := some now }

/-- POLL on a session: with nothing live in the queue and the poll spacing passed, a POLL is sent (R115). -/
def Session.pollIfDue (s : Session) (now : Nat) : Session :=
  if s.maySend now then
    match dropStale s.queue with
    | _ :: _ => s
    | [] => if s.pollDue now then { s with queue := [] }.sendPoll now else s
  else s

end Sys2Proof.Machine
end

