-- ==== Sys2Proof/Machine/Grants.lean ====
section
/-!
DEFINITION. What the Grant Arbiter and quiesce control do between grant boundaries: releasing records, the reduction-pending set,
zeroing, the stop release, acknowledgements, leases and the completion test (05, 08).
-/

namespace Sys2Proof.Machine

/-- The outlet's row after a record of `watts` is released: it takes the next sequence number (R98, R99). -/
def GrantRow.release (g : GrantRow) (watts : Nat) : GrantRow :=
  { g with released := watts, lastSeq := g.nextSeq, nextSeq := g.nextSeq + 1 }

/-- A GRANT released to an outlet and placed in its queue (R99, R100, R106, R133). -/
def Outlet.releaseGrant (out : Outlet) (lease watts : Nat) : Outlet :=
  { out with
    grants := out.grants.release watts
    session := out.session.placeGrant out.grants.nextSeq watts lease }

/-- A STOP released to an outlet and placed in its queue (R161, R134). -/
def Outlet.releaseStop (out : Outlet) (lease : Nat) : Outlet :=
  { out with
    grants := out.grants.release 0
    session := out.session.placeStop out.grants.nextSeq lease }

/-- The outlet's deferred raise discarded (R104). -/
def Outlet.dropDeferred (out : Outlet) : Outlet := { out with grants := { out.grants with deferred := none } }

/-- Zeroing between boundaries (R105, the first way): the deferred raise is discarded and a GRANT of 0 released. The outlet's
reduction mark stays. -/
def Cabinet.zeroGrant (env : Env) (c : Cabinet) (o : OutletNo) : Cabinet :=
  c.updOutlet o fun out => out.dropDeferred.releaseGrant env.lease 0

/-- An outlet's deferred raise, if it holds one, released as a GRANT (R103). -/
def Outlet.releaseDeferred (out : Outlet) (lease : Nat) : Outlet :=
  match out.grants.deferred with
  | some watts => out.dropDeferred.releaseGrant lease watts
  | none => out

/-- Every deferred raise released together (R103). -/
def Cabinet.releaseDeferred (env : Env) (c : Cabinet) : Cabinet :=
  { c with outlets := c.outlets.map fun out => out.releaseDeferred env.lease }

/-- No outlet is in the reduction-pending set (R102). -/
def Cabinet.reductionSetEmpty (c : Cabinet) : Bool := c.outlets.toList.all fun out => out.grants.mark.isNone

/-- An outlet leaves the reduction-pending set; when the last one leaves, the deferred raises are released (R103). -/
def Cabinet.leaveReductionSet (env : Env) (c : Cabinet) (o : OutletNo) : Cabinet :=
  match (c.outlet o).grants.mark with
  | none => c
  | some _ =>
    let c' := c.updGrants o fun g => { g with mark := none }
    if c'.reductionSetEmpty then c'.releaseDeferred env else c'

/-- Zeroing at a session end (R105, the second way): no record is released. -/
def Cabinet.zeroAtSessionEnd (env : Env) (c : Cabinet) (o : OutletNo) : Cabinet :=
  (c.updGrants o fun g => { g with released := 0, deferred := none }).leaveReductionSet env o

/-- An outlet holds a grant: an acknowledged grant above 0 whose lease runs, or a residual lease (R164). -/
def Outlet.holdsGrant (out : Outlet) : Bool :=
  (match out.session.acked with
    | some a => 0 < a.watts && 0 < out.session.lease
    | none => false)
    || 0 < out.residual

/-- How many outlets hold a grant (R164). -/
def Cabinet.holdingCount (c : Cabinet) : Nat := (c.outlets.toList.filter Outlet.holdsGrant).length

/-- The completion test of a quiesce (R166). -/
def Cabinet.completionTest (c : Cabinet) : Cabinet :=
  match c.quiesce with
  | .quiescing => if c.holdingCount = 0 then { c with quiesce := .quiesced }.raise .quiesceDone else c
  | .none => c
  | .quiesced => c

/-- The stop release at one outlet (R161): the deferred raise goes, and an IDENTIFIED or STALE session receives a STOP. -/
def Outlet.stopRelease (out : Outlet) (lease : Nat) : Outlet :=
  if out.session.takesGrants then out.dropDeferred.releaseStop lease else out.dropDeferred

/-- The stop release (R161). -/
def Cabinet.stopRelease (env : Env) (c : Cabinet) : Cabinet :=
  { c with outlets := c.outlets.map fun out => out.stopRelease env.lease }

/-- A number `a` is at or after the mark `m` when the last number is `last` (R99). -/
def Seq.atOrAfter (a m last : Seq) : Bool := (a - m).toNat ≤ (last - m).toNat

/-- The session after it has acknowledged the sent record `r`: the lease restarts when the record differs from the one last
acknowledged (R107, R125). -/
def Session.acknowledge (s : Session) (r : SentRecord) : Session :=
  let same := match s.acked with
    | some a => a.seq == r.seq
    | none => false
  { s with
    acked := some { seq := r.seq, watts := r.watts }
    lease := if same then s.lease else r.lease
    leaseDue := if same then s.leaseDue else .none }

/-- The outlet after an accepted acknowledgement: its residual lease is cleared too (R169). -/
def Outlet.acknowledge (out : Outlet) (r : SentRecord) : Outlet :=
  { out with session := out.session.acknowledge r, residual := 0, residualDue := false }

/-- The record of the sent list with a sequence number (R125). -/
def Session.sentWith (s : Session) (seq : Seq) : Option SentRecord := s.sent.find? fun r => r.seq == seq

/-- The judgement of a REPORT's acknowledgement (R125), with what follows from an accepted one: the outlet may leave the
reduction-pending set (R103), and a quiesce may complete (R166). -/
def Cabinet.judgeAcknowledgement (env : Env) (c : Cabinet) (o : OutletNo) (named : Option Seq) : Cabinet :=
  match named with
  | none => c
  | some seq =>
    match (c.session o).sentWith seq with
    | none => c
    | some r =>
      let c1 := c.updOutlet o fun out => out.acknowledge r
      let c2 := match (c1.outlet o).grants.mark with
        | some m => if Seq.atOrAfter seq m (c1.outlet o).grants.lastSeq then c1.leaveReductionSet env o else c1
        | none => c1
      c2.completionTest

/-- The expiry of the lease of an outlet's acknowledged grant is taken (R107): the outlet leaves the reduction-pending set, unless a
boundary has formed the set since the lease ran out (R108), and the completion test is made (R166). Not due, it does nothing
(log 5). -/
def Cabinet.takeLeaseExpiry (env : Env) (c : Cabinet) (o : OutletNo) : Cabinet :=
  match (c.session o).leaseDue with
  | .none => c
  | .due => ((c.updSession o fun s => { s with leaseDue := .none }).leaveReductionSet env o).completionTest
  | .afterBoundary => (c.updSession o fun s => { s with leaseDue := .none }).completionTest

/-- The expiry of an outlet's residual lease is taken: the completion test is made (R166, R169). Not due, it does nothing
(log 5). -/
def Cabinet.takeResidualExpiry (c : Cabinet) (o : OutletNo) : Cabinet :=
  if (c.outlet o).residualDue then
    (c.updOutlet o fun out => { out with residualDue := false }).completionTest
  else c

/-- A source second at one outlet: the lease remaining and the residual lease fall by 1 and stop at 0; reaching 0 makes the expiry
due (R107, R169). -/
def Outlet.countSecond (out : Outlet) : Outlet :=
  { out with
    session :=
      { out.session with
        lease := out.session.lease - 1
        leaseDue := if out.session.lease = 1 then .due else out.session.leaseDue }
    residual := out.residual - 1
    residualDue := out.residualDue || out.residual == 1 }

end Sys2Proof.Machine
end

