-- ==== Sys2Proof/Machine/Book.lean ====
section
/-!
DEFINITION. The Departure Book: plans stored and replaced, the lead of an outlet, ends of occurrences and re-arming, departures and
grace expiries, clock changes, and what a report does to its lead (01, 03 sections 3.5 and 3.6, 04).
-/

namespace Sys2Proof.Machine

/-! ## Plans -/

/-- The plan computed for an entry on outlet `o`, from the inputs as they stand (R40, R41, R45). None for an entry without a next
departure or a session without a loaded profile. -/
def Cabinet.planFor (env : Env) (c : Cabinet) (o : OutletNo) (e : Entry) : Option Plan :=
  match e.next, c.profileOf env o with
  | some departure, some profile =>
    let tOut := env.planner.outdoorUsed
    let fromReport : Int × Conditions := match (c.session o).lastReport with
      | some r => (r.cabin, condWhen r.clamped condInputClamped)
      | none => (tOut, 0)
    some
      { cabin := fromReport.1
        outdoor := tOut
        inputConditions := fromReport.2 ||| env.planner.outdoorConditions
        target := e.target
        profile := profile
        defrostSpent := (match e.exec with
          | some x => x.defrostSpent
          | none => 0)
        baseMargin := env.planner.baseMargin
        drifting := env.clock.calendar == .drifting
        u := env.clock.u
        departure := departure
        now := env.now : PlanInputs }.plan
  | _, _ => none

/-- The plan is UNREACHABLE (R52). -/
def Plan.isUnreachable (p : Plan) : Bool := p.conditions &&& condUnreachable != 0

/-- An entry with a plan stored: its conditions join the execution record's (R60), and an UNREACHABLE plan sets the unreachable
mark (R61). -/
def Entry.withPlan (e : Entry) (p : Plan) : Entry :=
  { e with
    plan := some p
    exec := (match e.exec with
      | some x => some { x with conditions := x.conditions ||| p.conditions }
      | none => none)
    unreachable := e.unreachable || p.isUnreachable }

/-- A plan computed for entry `e` on outlet `o` is stored; an UNREACHABLE plan raises PLAN_UNREACHABLE while the entry's mark is
clear (R60, R61). -/
def Cabinet.planEntry (env : Env) (c : Cabinet) (o : OutletNo) (e : Entry) : Cabinet :=
  match c.planFor env o e with
  | none => c
  | some p =>
    let c1 := c.updEntry e.number fun x => x.withPlan p
    if p.isUnreachable && !e.unreachable then c1.raise .planUnreachable else c1

/-- The lead of outlet `o` is planned again (R62). -/
def Cabinet.replan (env : Env) (c : Cabinet) (o : OutletNo) : Cabinet :=
  match c.leadOf o with
  | some e => c.planEntry env o e
  | none => c

/-- Every bound lead on every outlet is planned again (R62). -/
def Cabinet.replanAll (env : Env) (c : Cabinet) : Cabinet := outletNumbers.foldl (fun c o => c.replan env o) c

/-! ## The lead -/

/-- The present lead of outlet `o` is displaced (R21): back to BOOKED, its grant zeroed if it was WARMING or HOLDING. -/
def Cabinet.displaceLead (env : Env) (c : Cabinet) (o : OutletNo) : Cabinet :=
  match c.leadOf o with
  | none => c
  | some lead =>
    let c1 := c.updEntry lead.number Entry.toBooked
    if lead.isActive then c1.zeroGrant env o else c1

/-- Entry `e` becomes the lead of outlet `o`: it is planned at once and enters WAITING with that plan (R20). -/
def Cabinet.makeLead (env : Env) (c : Cabinet) (o : OutletNo) (e : Entry) : Cabinet :=
  match c.planFor env o e with
  | none => c
  | some _ => (c.planEntry env o e).updEntry e.number fun x => { x with state := .waiting }

/-- The choice of the lead of outlet `o` (R20, R21): while the calendar is set, the bound entry with the earliest next departure;
if it is the lead already, nothing changes. -/
def Cabinet.chooseLead (env : Env) (c : Cabinet) (o : OutletNo) : Cabinet :=
  if env.clock.isSet then
    match earliest (c.book.filter fun e => e.bound == some o) with
    | none => c
    | some e => if e.isLead then c else (c.displaceLead env o).makeLead env o e
  else c

/-- The lead chosen again on every outlet. -/
def Cabinet.chooseLeads (env : Env) (c : Cabinet) : Cabinet := outletNumbers.foldl (fun c o => c.chooseLead env o) c

/-- Every entry of a tag bound to outlet `o`, which becomes its occurrence outlet too (R4, R17). -/
def Cabinet.bindTag (c : Cabinet) (o : OutletNo) (tag : Tag) : Cabinet :=
  { c with book := c.book.map fun e =>
      if e.tag = tag then { e with bound := some o, occurrenceOutlet := some o } else e }

/-- Every entry bound to outlet `o` unbound; the lead returns to BOOKED, and occurrence outlets stay (R22). -/
def Cabinet.unbind (c : Cabinet) (o : OutletNo) : Cabinet :=
  { c with book := c.book.map fun e => if e.bound = some o then { e.toBooked with bound := none } else e }

/-! ## Outcomes -/

/-- The outcome record of an ending entry, but for its serial (R83). -/
def Entry.outcome (e : Entry) (cause : EndCause) (readiness : Readiness) (scheduled : Nat) (serial : Serial) : OutcomeRecord :=
  { serial := serial
    number := e.number
    tag := e.tag
    outlet := e.occurrenceOutlet
    scheduled := scheduled
    readiness := readiness
    cabin := (match e.snapshot with
      | some s => (match s.cabin with
        | some t => some (t, s.stale)
        | none => none)
      | none => none)
    targetReached := (match e.exec with
      | some x => x.targetReached
      | none => none)
    energy := (match e.exec with
      | some x => x.energy / 3600
      | none => 0)
    cause := cause
    conditions := (match e.exec with
      | some x => x.conditions
      | none => 0) }

/-- An outcome record appended with the next serial; a full list first loses its oldest (R84, R85). -/
def Cabinet.appendOutcome (c : Cabinet) (e : Entry) (cause : EndCause) (readiness : Readiness) (scheduled : Nat) : Cabinet :=
  let r := e.outcome cause readiness scheduled c.nextSerial
  if Config.outcomeCapacity ≤ c.outcomes.length then
    (({ c with outcomes := c.outcomes.drop 1 ++ [r], nextSerial := c.nextSerial + 1 }).raise .outcomeLost).raise .outcomeReady
  else
    ({ c with outcomes := c.outcomes ++ [r], nextSerial := c.nextSerial + 1 }).raise .outcomeReady

/-! ## Re-arming -/

/-- The next departures of the other entries with a tag: what a recurring entry's search passes over (R8, R10). -/
def Cabinet.takenTimes (c : Cabinet) (e : Entry) : List Nat :=
  (c.book.filter fun x => x.tag == e.tag && x.number != e.number).filterMap fun x => x.next

/-- The next occurrence of a recurring entry after `ref`, duplicates passed over (R8, R10). -/
def Cabinet.findOccurrence (c : Cabinet) (e : Entry) (p : Pattern) (ref : Nat) : Option Nat :=
  let taken := c.takenTimes e
  p.nextFree taken (taken.length + 1) ref

/-- An entry given a new occurrence: execution record and unreachable mark cleared, the occurrence outlet set again only if the
entry is bound (R4, R8, R25, R26, R61). -/
def Entry.newOccurrence (e : Entry) (t : Nat) : Entry :=
  { e with next := some t, exec := none, occurrenceOutlet := e.bound, unreachable := false }

/-- Re-arm (R8): the search runs from the later of the ended departure and now; without a result the entry is removed. -/
def Cabinet.rearm (env : Env) (c : Cabinet) (e : Entry) (p : Pattern) : Cabinet :=
  match c.findOccurrence e p (max (e.next.getD 0) env.now) with
  | none => c.removeEntry e.number
  | some t => c.updEntry e.number fun x => (x.newOccurrence t).toBooked

/-! ## The end of an occurrence -/

/-- The first three parts of an end (R80): outcome, lead and grant, removal or re-arm. `zeroing` says whether the end zeroes the
grant of a WARMING or HOLDING lead itself (R81). -/
def Cabinet.endOccurrence (env : Env) (c : Cabinet) (e : Entry) (cause : EndCause) (readiness : Readiness) (scheduled : Nat)
    (zeroing : Bool) : Cabinet :=
  let c1 := (c.appendOutcome e cause readiness scheduled).updEntry e.number Entry.toBooked
  let c2 := match e.bound with
    | some o => if zeroing && e.isActive then c1.zeroGrant env o else c1
    | none => c1
  match e.booking with
  | .oneShot _ => c2.removeEntry e.number
  | .recurring p => c2.rearm env e p

/-- An end carried out as one whole (R80): its first three parts, then the choice of the lead on the outlet where the entry is
bound. -/
def Cabinet.endEntry (env : Env) (c : Cabinet) (n : Nat) (cause : EndCause) (readiness : Readiness) (scheduled : Nat)
    (zeroing : Bool) : Cabinet :=
  match c.entry? n with
  | none => c
  | some e =>
    let c1 := c.endOccurrence env e cause readiness scheduled zeroing
    match e.bound with
    | some o => c1.chooseLead env o
    | none => c1

/-! ## Departure and grace -/

/-- The execution record of an entry, created when it has none: the conditions start as those of the plan in force (R60, R65). -/
def Entry.execution (e : Entry) : Execution :=
  match e.exec with
  | some x => x
  | none =>
    { warmingBegan := none, targetReached := none, energy := 0, defrostSpent := 0, snapshot := none
      conditions := (match e.plan with
        | some p => p.conditions
        | none => 0) }

/-- The departure snapshot of the lead on a session (R74). -/
def Entry.takeSnapshot (e : Entry) (s : Session) : Snapshot :=
  { readiness := if e.state = .holding then .ready else .short
    cabin := (match s.lastReport with
      | some r => some r.cabin
      | none => none)
    stale := s.state == .stale }

/-- The departure snapshot recorded in the execution record (R65, R74). -/
def Cabinet.recordSnapshot (c : Cabinet) (o : OutletNo) (n : Nat) : Cabinet :=
  c.updEntry n fun e => { e with exec := some { e.execution with snapshot := some (e.takeSnapshot (c.session o)) } }

/-- How a passed departure is treated: as at its calendar second (R73, R25), or within a forward jump of more than 60 s (R24). -/
inductive Passage where
  | atSecond
  | jump
  deriving DecidableEq, Repr

/-- The departure of entry `n` at `t` is taken (R24, R73). An entry that holds a snapshot is past its departure already. -/
def Cabinet.takeDeparture (env : Env) (mode : Passage) (c : Cabinet) (n t : Nat) : Cabinet :=
  match c.entry? n with
  | none => c
  | some e =>
    if e.next ≠ some t then c
    else if e.snapshot.isSome then c
    else match e.bound with
      | none =>
        (match mode with
        | .atSecond => c.endEntry env n .notPresent .absent t true
        | .jump => c.endEntry env n .skipped .skipped t true)
      | some o =>
        if e.isLead then c.recordSnapshot o n
        else match mode with
          | .jump => c.endEntry env n .skipped .skipped t true
          | .atSecond =>
            (match c.leadOf o with
            | some lead =>
              (c.endEntry env lead.number .superseded
                (match lead.snapshot with
                | some s => s.readiness
                | none => .short)
                (lead.next.getD t) true).recordSnapshot o n
            | none => (c.chooseLead env o).recordSnapshot o n)

/-- The grace expiry of entry `n`, whose departure is `dep`, is taken (R77): an entry past its departure ends GRACE_EXPIRED with
the readiness of its snapshot. -/
def Cabinet.takeGraceExpiry (env : Env) (c : Cabinet) (n dep : Nat) : Cabinet :=
  match c.entry? n with
  | none => c
  | some e =>
    if e.next ≠ some dep then c
    else match e.snapshot with
      | none => c
      | some s => c.endEntry env n .graceExpired s.readiness dep true

/-- A departure or grace expiry that falls due: the time it names, the departure it belongs to, the entry, and which of the two. -/
structure DueEvent where
  time : Nat
  departure : Nat
  number : Nat
  isGrace : Bool
  deriving DecidableEq, Repr

/-- The order in which due events are taken: by time, then book order, an entry's departure before its own grace expiry (R24,
R73, log 23). -/
def DueEvent.le (a b : DueEvent) : Bool :=
  a.time < b.time || (a.time == b.time &&
    (a.departure < b.departure || (a.departure == b.departure &&
      (a.number < b.number || (a.number == b.number && (!a.isGrace || b.isGrace))))))

/-- The departure and the grace expiry of an entry (R73, R77). -/
def Entry.dueEvents (e : Entry) : List DueEvent :=
  match e.next with
  | none => []
  | some d => [⟨d, d, e.number, false⟩, ⟨d + e.grace * 60, d, e.number, true⟩]

/-- The events that fall after `t0` up to and including `t1`, in the order in which they are taken. -/
def Cabinet.dueBetween (c : Cabinet) (t0 t1 : Nat) : List DueEvent :=
  sortBy DueEvent.le ((c.book.flatMap Entry.dueEvents).filter fun ev => t0 < ev.time && ev.time ≤ t1)

/-- One due event is taken. -/
def Cabinet.takeDue (env : Env) (mode : Passage) (c : Cabinet) (ev : DueEvent) : Cabinet :=
  if ev.isGrace then c.takeGraceExpiry env ev.number ev.departure
  else c.takeDeparture env mode ev.number ev.departure

/-- The departures and grace expiries after `t0` up to and including `t1` are taken (R24, R25, R73). -/
def Cabinet.passEvents (env : Env) (mode : Passage) (c : Cabinet) (t0 t1 : Nat) : Cabinet :=
  (c.dueBetween t0 t1).foldl (fun c ev => c.takeDue env mode ev) c

/-- A calendar second counted as a second of warming (R67). -/
def Entry.countDefrost (e : Entry) : Entry :=
  if e.state = .warming then
    { e with exec := (match e.exec with
        | some x => some { x with defrostSpent := min 900 (x.defrostSpent + 1) }
        | none => none) }
  else e

/-- The calendar second event (R142): the Book counts defrost and takes what falls due at this second. -/
def Cabinet.calendarSecond (env : Env) (c : Cabinet) : Cabinet :=
  let c1 := { c with book := c.book.map Entry.countDefrost }
  c1.passEvents env .atSecond (env.now - 1) env.now

/-! ## Changes of the calendar -/

/-- Recomputation of a recurring entry's next departure after a small or backward jump (R25). -/
def Cabinet.recompute (env : Env) (c : Cabinet) (n : Nat) : Cabinet :=
  match c.entry? n with
  | none => c
  | some e =>
    match e.booking with
    | .oneShot _ => c
    | .recurring p =>
      if (e.state = .booked || e.state = .waiting) && e.snapshot.isNone then
        match c.findOccurrence e p env.now with
        | none => c
        | some t => if e.next = some t then c else c.updEntry n fun x => x.newOccurrence t
      else c

/-- The numbers of the entries, ascending. -/
def Cabinet.numbers (c : Cabinet) : List Nat := c.book.map Entry.number

/-- The Book is told of a jump from `t0` to the time the calendar now holds (R24, R25, R152): the passed events, the
recomputation of recurring entries, the choice of every lead, and the replans. -/
def Cabinet.clockJump (env : Env) (c : Cabinet) (t0 : Nat) : Cabinet :=
  let c1 :=
    if t0 + 60 < env.now then c.passEvents env .jump t0 env.now
    else
      let c0 := c.passEvents env .atSecond t0 env.now
      c0.numbers.foldl (fun c n => c.recompute env n) c0
  (c1.chooseLeads env).replanAll env

/-- An entry ends SKIPPED as the calendar leaves UNSET (R26); the leads are chosen when every entry has been taken. -/
def Cabinet.endOnLeavingUnset (env : Env) (c : Cabinet) (e : Entry) (scheduled : Nat) : Cabinet :=
  c.endOccurrence env e .skipped
    (match e.snapshot with
    | some s => s.readiness
    | none => .skipped)
    scheduled false

/-- A ONE_SHOT entry as the calendar leaves UNSET (R26). -/
def Cabinet.leaveUnsetOneShot (env : Env) (c : Cabinet) (n : Nat) : Cabinet :=
  match c.entry? n with
  | none => c
  | some e =>
    match e.booking with
    | .recurring _ => c
    | .oneShot d =>
      if d ≤ env.now then c.endOnLeavingUnset env e d else c.updEntry n fun x => { x with next := some d }

/-- A RECURRING entry as the calendar leaves UNSET (R26). The scheduled departure of one that holds a snapshot is a free value
(log 16). -/
def Cabinet.leaveUnsetRecurring (env : Env) (c : Cabinet) (n : Nat) : Cabinet :=
  match c.entry? n with
  | none => c
  | some e =>
    match e.booking with
    | .oneShot _ => c
    | .recurring p =>
      match e.snapshot with
      | some _ =>
        { c with freeCount := c.freeCount + 1 }.endOnLeavingUnset env e (Config.lostDeparture c.freeCount).val
      | none =>
        let c1 := c.updEntry n fun x => { x with exec := none }
        match c1.findOccurrence e p env.now with
        | some t => c1.updEntry n fun x => x.newOccurrence t
        | none =>
          (c1.appendOutcome { e with exec := none } .skipped .skipped (env.now - env.now % 60)).removeEntry n

/-- The Book is told that the calendar has left UNSET (R26, R152). -/
def Cabinet.leaveUnset (env : Env) (c : Cabinet) : Cabinet :=
  let c1 := c.numbers.foldl (fun c n => c.leaveUnsetOneShot env n) c
  let c2 := c1.numbers.foldl (fun c n => c.leaveUnsetRecurring env n) c1
  (c2.chooseLeads env).replanAll env

/-- The grant of an outlet whose lead is WARMING or HOLDING is zeroed (R27, R105). -/
def Cabinet.zeroIfActive (env : Env) (c : Cabinet) (o : OutletNo) : Cabinet :=
  match c.leadOf o with
  | some e => if e.isActive then c.zeroGrant env o else c
  | none => c

/-- The Book is told that the calendar has become UNSET (R27): grants of active leads are zeroed, every lead returns to BOOKED and
every next departure becomes ABSENT. -/
def Cabinet.becomeUnset (env : Env) (c : Cabinet) : Cabinet :=
  let c1 := outletNumbers.foldl (fun c o => c.zeroIfActive env o) c
  { c1 with book := c1.book.map fun e => { e.toBooked with next := none } }

/-! ## Reports -/

/-- The energy a report adds, in joules (R71): draw times elapsed milliseconds, limited to 5,000, divided by 1,000. -/
def energyOf (draw : Nat) (ref : Option Nat) (now : Nat) : Nat :=
  match ref with
  | none => 0
  | some t => draw * min (now - t) Config.energyLimit / 1000

/-- A report taken by a WARMING or HOLDING lead (R69 to R72): energy is added, and the phase may change. -/
def Entry.takeReport (e : Entry) (r : Report) (ref : Option Nat) (now : Nat) : Entry :=
  let x := e.execution
  let x1 := { x with energy := min Config.max32 (x.energy + energyOf r.draw ref r.receivedAt) }
  match e.state with
  | .warming =>
    if e.target - 5 ≤ r.cabin then
      { e with
        state := .holding
        exec := some { x1 with targetReached := (match x1.targetReached with
          | some t => some t
          | none => some now) } }
    else { e with exec := some x1 }
  | .holding => { e with state := if r.cabin < e.target - 20 then .warming else .holding, exec := some x1 }
  | .waiting => e
  | .booked => e

/-- The Book takes a report received on outlet `o`, with the session's energy reference as the previous report (R68 to R71). -/
def Cabinet.bookReport (env : Env) (c : Cabinet) (o : OutletNo) (r : Report) : Cabinet :=
  match c.leadOf o with
  | none => c
  | some e => c.updEntry e.number fun x => x.takeReport r (c.session o).energyRef env.now

end Sys2Proof.Machine
end

