-- ==== Sys2Proof/Machine/Sessions.lean ====
section
/-!
DEFINITION. Outlet sessions: binding (R17 to R19), identification (R120 to R123), the end of a session (R78, R130), misses (R118),
and the taking of a reply (R117, R119, R124).
-/

namespace Sys2Proof.Machine

/-! ## Binding -/

/-- A session other than outlet `o`'s holds the binding of a tag (R17). -/
def Cabinet.boundElsewhere (c : Cabinet) (o : OutletNo) (tag : Tag) : Bool :=
  outletNumbers.any fun x => x != o && (c.session x).holdsBinding && (c.session x).tag == some tag

/-- A session holds the binding of a tag: the outlet it is on (R18). -/
def Cabinet.holderOf (c : Cabinet) (tag : Tag) : Option OutletNo :=
  outletNumbers.find? fun x => (c.session x).holdsBinding && (c.session x).tag == some tag

/-- The binding test of R17: the first failing condition, none when the test passes. -/
def Cabinet.bindingTest (env : Env) (c : Cabinet) (o : OutletNo) (tag : Tag) (p : SlotNo) : Option UnmatchedCause :=
  if (env.profiles.get p).isNone then some .noProfile
  else if !(c.book.any fun e => e.tag == tag) then some .unknownTag
  else if c.boundElsewhere o tag then some .tagConflict
  else none

/-- The session of outlet `o` becomes IDENTIFIED with its tag (R17, R120, R123): the tag's entries are bound, the lead chosen, a
WELCOME placed and VEHICLE_IDENTIFIED raised. -/
def Cabinet.identify (env : Env) (c : Cabinet) (o : OutletNo) (tag : Tag) : Cabinet :=
  let c1 := c.updSession o fun s =>
    { s with state := .identified, cause := none, energyRef := none, overdraw := 0 }
  let c2 := (c1.bindTag o tag).chooseLead env o
  (c2.updSession o fun s => s.placeWelcome (.welcome (some tag) none)).raise .vehicleIdentified

/-- An UNMATCHED session tested again for binding (R19, R123): it passes, or its cause becomes the first failing condition. One
without a tag is not tested. -/
def Cabinet.retest (env : Env) (c : Cabinet) (o : OutletNo) : Cabinet :=
  let s := c.session o
  if s.state = .unmatched then
    match s.tag, s.profile with
    | some tag, some p =>
      (match c.bindingTest env o tag p with
      | none => c.identify env o tag
      | some cause => c.updSession o fun s => { s with cause := some cause })
    | _, _ => c
  else c

/-- Every UNMATCHED session that carries a tag tested again, in outlet-number order (R18, R19). -/
def Cabinet.retestTag (env : Env) (c : Cabinet) (tag : Tag) : Cabinet :=
  outletNumbers.foldl (fun c o => if (c.session o).tag = some tag then c.retest env o else c) c

/-- Every UNMATCHED session that names a profile tested again, in outlet-number order (R19, R34). -/
def Cabinet.retestProfile (env : Env) (c : Cabinet) (p : SlotNo) : Cabinet :=
  outletNumbers.foldl (fun c o => if (c.session o).profile = some p then c.retest env o else c) c

/-! ## The end of a session -/

/-- What ends a session (R130), a restart apart. -/
inductive SessionEnd where
  | plugRelease
  | bye
  | linkLost
  | overdraw
  deriving DecidableEq, Repr

/-- The session after the first and fourth parts of an end (R130, R131): in EMPTY every field is discarded; in CLOSED and FAULTED
the tag, the profile number, the end reason and the unmatched cause stay for reading. -/
def Session.ended (s : Session) (why : SessionEnd) : Session :=
  match why with
  | .plugRelease => .cleared
  | .bye =>
    { Session.cleared with
      state := .closed, tag := s.tag, profile := s.profile, cause := s.cause, endReason := some .bye }
  | .linkLost =>
    { Session.cleared with
      state := .closed, tag := s.tag, profile := s.profile, cause := s.cause, endReason := some .linkLost }
  | .overdraw =>
    { Session.cleared with
      state := .faulted, tag := s.tag, profile := s.profile, cause := s.cause, endReason := some .overdraw }

/-- The end cause of a former lead whose departure has passed (R78). -/
def SessionEnd.endCause (why : SessionEnd) : EndCause :=
  match why with
  | .plugRelease => .left
  | .bye => .left
  | .linkLost => .linkLost
  | .overdraw => .fault

/-- The Book unbinds the outlet and decides the fate of the former lead (R22, R78). -/
def Cabinet.releaseBinding (env : Env) (c : Cabinet) (o : OutletNo) (why : SessionEnd) : Cabinet :=
  let c1 := c.unbind o
  match c.leadOf o with
  | none => c1
  | some lead =>
    match lead.snapshot with
    | some s => c1.endEntry env lead.number why.endCause s.readiness (lead.next.getD 0) false
    | none =>
      if why = .overdraw ∧ lead.isActive = true then
        c1.endEntry env lead.number .fault .faulted (lead.next.getD 0) false
      else c1

/-- The notice of an end (R130). -/
def Cabinet.raiseEnd (c : Cabinet) (why : SessionEnd) : Cabinet :=
  match why with
  | .plugRelease => c
  | .bye => c
  | .linkLost => c.raise .linkLost
  | .overdraw => c.raise .overdraw

/-- The end of a session (R130), as one whole and in its order, and the completion test of a quiesce that it calls for (R166). -/
def Cabinet.endSession (env : Env) (c : Cabinet) (o : OutletNo) (why : SessionEnd) : Cabinet :=
  let s := c.session o
  let c1 := c.updSession o fun x => x.ended why
  let c2 := if s.holdsBinding then c1.releaseBinding env o why else c1
  let c3 := (c2.zeroAtSessionEnd env o).raiseEnd why
  let c4 := match s.holdsBinding, s.tag with
    | true, some tag => c3.retestTag env tag
    | _, _ => c3
  c4.completionTest

/-! ## Misses -/

/-- An exchange ends: the channel is IDLE and the end is recorded (R116). -/
def Session.endExchange (s : Session) (now : Nat) : Session := { s with channel := .idle, lastEnd := some now }

/-- A miss (R118): the third in IDENTIFIED or UNMATCHED takes the session to STALE; the tenth in AWAITING_HELLO and the sixth in all
end it in CLOSED. -/
def Cabinet.miss (env : Env) (c : Cabinet) (o : OutletNo) : Cabinet :=
  let c1 := c.updSession o fun s => { s with misses := s.misses + 1 }
  let s := c1.session o
  match s.state with
  | .awaitingHello => if 10 ≤ s.misses then c1.endSession env o .linkLost else c1
  | .identified =>
    if 3 ≤ s.misses then c1.updSession o fun x => { x with state := .stale, cameFrom := some .identified } else c1
  | .unmatched =>
    if 3 ≤ s.misses then c1.updSession o fun x => { x with state := .stale, cameFrom := some .unmatched } else c1
  | .stale => if 6 ≤ s.misses then c1.endSession env o .linkLost else c1
  | .empty => c
  | .closed => c
  | .faulted => c

/-- An exchange that ends as a miss (R116, R117). On an IDLE channel there is no exchange and nothing happens. -/
def Cabinet.missExchange (env : Env) (c : Cabinet) (o : OutletNo) (now : Nat) : Cabinet :=
  match (c.session o).channel with
  | .idle => c
  | .inFlight _ _ => (c.updSession o fun s => s.endExchange now).miss env o

/-! ## Good replies -/

/-- A good reply ends the exchange (R116, R117): a record from the queue that satisfies `removes` leaves the head, and the miss count
becomes 0. -/
def Session.goodReply (s : Session) (removes : QueueRecord → Bool) (now : Nat) : Session :=
  let queue := if s.headInFlight then
      (match s.queue with
      | r :: rest => if removes r then rest else r :: rest
      | [] => [])
    else s.queue
  { s.endExchange now with queue := queue, misses := 0 }

/-- A good reply first returns a STALE session to the state it came from (R119); returned to UNMATCHED it is tested for binding. A
STALE session that tells no origin, which none does (log 26), holds no binding and returns to UNMATCHED. -/
def Cabinet.returnFromStale (env : Env) (c : Cabinet) (o : OutletNo) : Cabinet :=
  let s := c.session o
  if s.state = .stale then
    match s.cameFrom with
    | some .identified => c.updSession o fun x => { x with state := .identified, cameFrom := none }
    | some .unmatched => (c.updSession o fun x => { x with state := .unmatched, cameFrom := none }).retest env o
    | none => (c.updSession o fun x => { x with state := .unmatched, cameFrom := none }).retest env o
  else c

/-- The taking of a good reply up to the rules of its kind (R117, R119). -/
def Cabinet.takeGood (env : Env) (c : Cabinet) (o : OutletNo) (removes : QueueRecord → Bool) (now : Nat) : Cabinet :=
  (c.updSession o fun s => s.goodReply removes now).returnFromStale env o

/-- The tag and profile number of a HELLO, none when it is invalid (R120, R204). -/
def helloContents (payload : List Byte) : Option (Tag × SlotNo) :=
  if payload.length = 14 then
    match tagAt payload 0 with
    | none => none
    | some tag =>
      let p := u8At payload 13
      if h : p < 16 then some (tag, ⟨p, h⟩) else none
  else none

/-- The WELCOME that repeats a session's tag, state and cause (R120, R121). -/
def Session.welcome (s : Session) : QueueBody :=
  .welcome s.tag (if s.state = .identified then none else s.cause)

/-- A HELLO taken in AWAITING_HELLO (R120). -/
def Cabinet.firstHello (env : Env) (c : Cabinet) (o : OutletNo) (payload : List Byte) : Cabinet :=
  match helloContents payload with
  | none =>
    let c1 := c.updSession o fun s => { s with state := .unmatched, cause := some .badHello }
    (c1.updSession o fun s => s.placeWelcome s.welcome).raise .vehicleUnmatched
  | some (tag, p) =>
    let c1 := c.updSession o fun s => { s with tag := some tag, profile := some p }
    match c1.bindingTest env o tag p with
    | none => c1.identify env o tag
    | some cause =>
      let c2 := c1.updSession o fun s => { s with state := .unmatched, cause := some cause }
      (c2.updSession o fun s => s.placeWelcome s.welcome).raise .vehicleUnmatched

/-- A HELLO received while an exchange is in flight (R117, R120, R121). It removes a WELCOME from the head. -/
def Cabinet.takeHello (env : Env) (c : Cabinet) (o : OutletNo) (now : Nat) (payload : List Byte) : Cabinet :=
  match (c.session o).channel with
  | .idle => c
  | .inFlight _ _ =>
    let first := (c.session o).state == .awaitingHello
    let c1 := c.takeGood env o QueueRecord.isWelcome now
    if first then c1.firstHello env o payload
    else c1.updSession o fun s => s.placeWelcome s.welcome

/-- The report that a REPORT's payload carries, its cabin temperature clamped at receipt (R124, R204). -/
def reportOf (payload : List Byte) (now : Nat) : Report :=
  let t := s16At payload 0
  let cabin := max (-500) (min 700 t)
  { cabin := cabin
    clamped := cabin != t
    draw := u16At payload 2
    named := if u8At payload 4 = 1 then some (BitVec.ofNat 16 (u16At payload 5)) else none
    receivedAt := now }

/-- The overdraw limit of a session (R127). -/
def Session.overdrawLimit (s : Session) : Nat :=
  (match s.acked with
    | some a => a.watts * 110 / 100
    | none => 0) + 200

/-- The overdraw judgement of a report (R127, R128). -/
def Cabinet.judgeOverdraw (env : Env) (c : Cabinet) (o : OutletNo) (r : Report) : Cabinet :=
  let c1 := c.updSession o fun s =>
    { s with overdraw := if s.overdrawLimit < r.draw then s.overdraw + 1 else 0 }
  if 2 ≤ (c1.session o).overdraw then c1.endSession env o .overdraw else c1

/-- The five steps of a report within its own receipt (R124); in UNMATCHED it stops after the second. -/
def Cabinet.fileReport (env : Env) (c : Cabinet) (o : OutletNo) (r : Report) : Cabinet :=
  let c1 := c.updSession o fun s => { s with lastReport := some r }
  if (c1.session o).state = .identified then
    let c2 := c1.judgeAcknowledgement env o r.named
    let c3 := c2.bookReport env o r
    let c4 := c3.updSession o fun s => { s with energyRef := some r.receivedAt }
    c4.judgeOverdraw env o r
  else c1

/-- A REPORT received while an exchange is in flight (R117, R124, R204). In AWAITING_HELLO, or with a payload that is not 7 bytes, it
is a miss. A good one removes the record it replies to. -/
def Cabinet.takeReport (env : Env) (c : Cabinet) (o : OutletNo) (now : Nat) (payload : List Byte) : Cabinet :=
  match (c.session o).channel with
  | .idle => c
  | .inFlight _ _ =>
    if (c.session o).state = .awaitingHello ∨ payload.length ≠ 7 then c.missExchange env o now
    else (c.takeGood env o (fun _ => true) now).fileReport env o (reportOf payload now)

/-- A BYE received while an exchange is in flight (R117, R129). -/
def Cabinet.takeBye (env : Env) (c : Cabinet) (o : OutletNo) (now : Nat) : Cabinet :=
  match (c.session o).channel with
  | .idle => c
  | .inFlight _ _ => (c.takeGood env o (fun _ => false) now).endSession env o .bye

/-- The bytes of a reply received on outlet `o`'s link (R116, R117, R204): on an IDLE channel they are discarded; bytes that make no
complete frame leave the exchange in flight; a bad frame and one of another kind are misses; a HELLO of any length is a HELLO, and a BYE
has no payload. -/
def Cabinet.takeReply (env : Env) (c : Cabinet) (o : OutletNo) (now : Nat) (bytes : List Byte) : Cabinet :=
  match heardFrame bytes with
  | .incomplete => c
  | .bad => c.missExchange env o now
  | .frame kind payload =>
    if kind = kindHello then c.takeHello env o now payload
    else if kind = kindReport then c.takeReport env o now payload
    else if kind = kindBye ∧ payload = [] then c.takeBye env o now
    else c.missExchange env o now

/-! ## The plug-present line -/

/-- A session begins (R114): AWAITING_HELLO, with a POLL sent at once. -/
def Session.begin (now : Nat) : Session := { Session.cleared with state := .awaitingHello }.sendPoll now

/-- The filtered level of outlet `o`'s plug line becomes asserted (R113, R114). Asserted already, it does not become so (log 5). -/
def Cabinet.plugAsserted (c : Cabinet) (o : OutletNo) (now : Nat) : Cabinet :=
  if (c.outlet o).plug.asserted then c
  else
    let c1 := c.updOutlet o fun out => { out with plug := { asserted := true, run := 0 } }
    if (c1.session o).state = .empty then c1.updSession o fun _ => .begin now else c1

/-- The filtered level of outlet `o`'s plug line becomes deasserted (R113): a session in any state but EMPTY ends. -/
def Cabinet.plugReleased (env : Env) (c : Cabinet) (o : OutletNo) : Cabinet :=
  if (c.outlet o).plug.asserted then
    let c1 := c.updOutlet o fun out => { out with plug := .deasserted }
    if (c1.session o).state = .empty then c1 else c1.endSession env o .plugRelease
  else c

/-- What a sample does to a filter (R112, R158): none when the third consecutive differing sample changes the filtered level,
otherwise the filter after it. -/
def Filter.sample (f : Filter) (level : Bool) : Option Filter :=
  if level = f.asserted then some { f with run := 0 }
  else if f.run < 2 then some { f with run := f.run + 1 }
  else none

/-- A sample of outlet `o`'s plug-present line (R112): the third consecutive differing one makes its level the filtered level, with
all that follows from it. -/
def Cabinet.plugSample (env : Env) (c : Cabinet) (o : OutletNo) (now : Nat) (level : Bool) : Cabinet :=
  match (c.outlet o).plug.sample level with
  | some f => c.updOutlet o fun out => { out with plug := f }
  | none => if level then c.plugAsserted o now else c.plugReleased env o

end Sys2Proof.Machine
end

