-- ==== Sys2Proof/Machine/Boundary.lean ====
section
/-!
DEFINITION. The grant boundary (05, section 5.3): transfer, replan, supersession and start tests, candidates, ranking, allocation,
decrease-first release and the reduction-pending set.
-/

namespace Sys2Proof.Machine

/-! ## Start and supersession tests -/

/-- The entry that follows the lead on its outlet: the bound entry with the earliest next departure after the lead's (R23). -/
def Cabinet.following (c : Cabinet) (o : OutletNo) (lead : Entry) : Option Entry :=
  earliest (c.book.filter fun e => e.bound == some o && e.number != lead.number &&
    (match e.next, lead.next with
      | some x, some y => y < x
      | _, _ => false))

/-- A plan's start falls before the boundary's time plus the active interval (R23, R66). -/
def Plan.startsBy (env : Env) (p : Plan) : Bool := p.start < env.now + env.interval

/-- The supersession test of the lead with number `n` (R23, R63): when the trial plan of the following entry starts in time, the lead
ends SUPERSEDED, and the choice of lead that follows adopts that plan (log 28). -/
def Cabinet.supersede (env : Env) (c : Cabinet) (n : Nat) : Cabinet :=
  match c.entry? n with
  | none => c
  | some lead =>
    match lead.bound, lead.snapshot with
    | some o, some s =>
      if lead.isLead then
        match c.following o lead with
        | none => c
        | some f =>
          (match c.planFor env o f with
          | none => c
          | some p =>
            if p.startsBy env then c.endEntry env n .superseded s.readiness (lead.next.getD 0) false else c)
      else c
    | _, _ => c

/-- The supersession tests, over the leads in book order (R23, R80; log 22). -/
def Cabinet.supersedeAll (env : Env) (c : Cabinet) : Cabinet :=
  ((c.bookOrder.filter Entry.isLead).map Entry.number).foldl (fun c n => c.supersede env n) c

/-- A lead's entry into WARMING (R65, R66): its execution record is created, or takes its warming-began time. -/
def Entry.startWarming (e : Entry) (now : Nat) : Entry :=
  let x := e.execution
  { e with
    state := .warming
    exec := some { x with warmingBegan := (match x.warmingBegan with
      | some t => some t
      | none => some now) } }

/-- The start test of one entry (R66): a WAITING lead whose start is near goes to WARMING. -/
def Entry.startTest (env : Env) (e : Entry) : Entry :=
  match e.state, e.plan, e.bound with
  | .waiting, some p, some _ => if p.startsBy env then e.startWarming env.now else e
  | _, _, _ => e

/-- The start tests (R66). -/
def Cabinet.startTests (env : Env) (c : Cabinet) : Cabinet := { c with book := c.book.map fun e => e.startTest env }

/-! ## Candidates, ranking, allocation -/

/-- A candidate at a boundary, with what the Arbiter reads of it (R94). `key` is the ranking key within its tier. -/
structure Candidate where
  outlet : OutletNo
  tier : Nat
  key : Int
  demand : Nat
  minDraw : Nat
  deriving DecidableEq, Repr

/-- The tier and the key of a lead (R95). -/
def Entry.rank (e : Entry) : Nat × Int :=
  if e.snapshot.isSome then (3, (e.next.getD 0 : Nat))
  else if e.state = .holding then (1, (e.next.getD 0 : Nat))
  else (2, (match e.plan with
    | some p => p.slack
    | none => 0))

/-- The candidate of an outlet, if it is one (R94): its session is IDENTIFIED and its lead WARMING or HOLDING. -/
def Cabinet.candidateAt (env : Env) (c : Cabinet) (o : OutletNo) : Option Candidate :=
  if (c.session o).state = .identified then
    match c.leadOf o, c.profileOf env o with
    | some e, some p =>
      if e.isActive then
        some { outlet := o, tier := e.rank.1, key := e.rank.2, demand := e.demand, minDraw := p.minDraw }
      else none
    | _, _ => none
  else none

/-- The candidates, none while power is stopped (R94). -/
def Cabinet.candidates (env : Env) (stopped : Bool) (c : Cabinet) : List Candidate :=
  if stopped then [] else outletNumbers.filterMap fun o => c.candidateAt env o

/-- The ranking order (R95): tier, then key, then outlet number. -/
def Candidate.before (a b : Candidate) : Bool :=
  a.tier < b.tier || (a.tier == b.tier &&
    (a.key < b.key || (a.key == b.key && a.outlet.val ≤ b.outlet.val)))

/-- The candidates in the order of their ranking (R95). -/
def rankCandidates (l : List Candidate) : List Candidate := sortBy Candidate.before l

/-- The amount a candidate is given from a remainder (R96). -/
def Candidate.share (k : Candidate) (remainder : Nat) : Nat :=
  let amount := min k.demand remainder
  if k.minDraw ≤ amount then amount else 0

/-- The allocation of a remainder to the candidates in their order (R96): each outlet with its new grant. -/
def allocate : List Candidate → (remainder : Nat) → List (OutletNo × Nat)
  | [], _ => []
  | k :: rest, remainder => (k.outlet, k.share remainder) :: allocate rest (remainder - k.share remainder)

/-- The new grant of an outlet: 0 for one that is not a candidate (R97). -/
def newGrant (decision : List (OutletNo × Nat)) (o : OutletNo) : Nat :=
  match decision.find? fun d => d.1 == o with
  | some d => d.2
  | none => 0

/-! ## Release -/

/-- Decrease-first release at one outlet (R101): a lower or equal grant is released at once, a higher one deferred. -/
def Outlet.boundaryRelease (out : Outlet) (lease new : Nat) : Outlet :=
  if out.session.takesGrants then
    if new ≤ out.grants.released then out.releaseGrant lease new
    else if out.session.state = .identified then { out with grants := { out.grants with deferred := some new } }
    else out
  else out

/-- The acknowledged grant of a session, 0 when it has acknowledged none (R102). -/
def Session.ackedWatts (s : Session) : Nat :=
  match s.acked with
  | some a => a.watts
  | none => 0

/-- The reduction-pending set formed afresh at one outlet (R102). A lease whose expiry is due no longer acts on the set (R108). -/
def Outlet.formMark (out : Outlet) : Outlet :=
  { out with
    grants := { out.grants with
      mark := if out.session.takesGrants && decide (out.grants.released < out.session.ackedWatts) then
          some out.grants.lastSeq else none }
    session := { out.session with
      leaseDue := (match out.session.leaseDue with
        | .none => .none
        | .due => .afterBoundary
        | .afterBoundary => .afterBoundary) } }

/-- The releases of a boundary over all outlets (R101, R102, R103): with an empty reduction-pending set every raise is released
before the boundary ends. -/
def Cabinet.releaseDecision (env : Env) (c : Cabinet) (decision : List (OutletNo × Nat)) : Cabinet :=
  let c1 := outletNumbers.foldl
    (fun c o => c.updOutlet o fun out => out.boundaryRelease env.lease (newGrant decision o)) c
  let c2 := { c1 with outlets := c1.outlets.map Outlet.formMark }
  if c2.reductionSetEmpty then c2.releaseDeferred env else c2

/-- What a boundary does to the cabinet, after the transfer of the pending settings (05, section 5.3). The deferred raises of the
boundary before are discarded first (R104). -/
def Cabinet.boundary (env : Env) (allowance : Nat) (stopped : Bool) (c : Cabinet) : Cabinet :=
  let c0 := { c with outlets := c.outlets.map Outlet.dropDeferred }
  let c1 := ((c0.replanAll env).supersedeAll env).startTests env
  c1.releaseDecision env (allocate (rankCandidates (c1.candidates env stopped)) allowance)

/-- The transfer of the pending settings, and the timer started again with the interval now active (R92, R93). -/
def Arbiter.transfer (a : Arbiter) : Arbiter :=
  { a with
    activeAllowance := a.pendingAllowance
    activeInterval := a.pendingInterval
    secondsLeft := a.pendingInterval
    boundaryDue := false }

/-- Power is stopped: the shed latch is set or quiesce is not NONE (R94). -/
def State.powerStopped (s : State) : Bool := s.shed.latch || s.cab.quiesce != .none

/-- A grant boundary (R93): the settings are transferred and everything that follows reads the new ones. -/
def State.boundary (s : State) : State :=
  let s1 := { s with arbiter := s.arbiter.transfer }
  { s1 with cab := s.cab.boundary s1.env s1.arbiter.activeAllowance s.powerStopped }

/-- The boundary that is due is taken. The timer not expired, there is none to take (R92, log 5). -/
def State.takeBoundary (s : State) : State := if s.arbiter.boundaryDue then s.boundary else s

end Sys2Proof.Machine
end

