-- ==== Sys2Proof/Machine/Seconds.lean ====
section
/-!
DEFINITION. The Time Base: source seconds and what they bring about, supervisor windows, the end of range, and SET_CLOCK's change of
the calendar (07; R43, R92, R107, R169).
-/

namespace Sys2Proof.Machine

/-! ## The Time Base alone -/

/-- u counts a source second that arrives while the source is INTERNAL and the calendar DRIFTING (R149). -/
def TimeBase.countU (c : TimeBase) : TimeBase :=
  if c.source = .internal ∧ c.calendar = .drifting then { c with u := min Config.max32 (c.u + 1) } else c

/-- The calendar can advance: it is set and not at the end of its range (R138). -/
def TimeBase.canAdvance (c : TimeBase) : Bool := c.isSet && decide (c.depotTime < Config.lastDepotTime)

/-- The calendar advances by one second (R138, R140). -/
def TimeBase.advance (c : TimeBase) : TimeBase := { c with depotTime := c.depotTime + 1 }

/-- The calendar held at its value and made UNSET (R144). -/
def TimeBase.toUnset (c : TimeBase) : TimeBase := { c with calendar := .unset }

/-- A source second at the Time Base while the main domain has no supply (R155): nothing is told and nothing raised. -/
def TimeBase.secondAlone (c : TimeBase) : TimeBase :=
  let c1 := c.countU
  if c1.canAdvance then
    let c2 := c1.advance
    if c2.depotTime = Config.lastDepotTime then c2.toUnset else c2
  else c1

/-- A window passes when its count lies in 63,570..67,502 (R145). -/
def windowPasses (edges : Nat) : Bool := 63570 ≤ edges && edges ≤ 67502

/-- A window's count as it is kept and read back: it saturates at 65,535 (07, section 7.4; log 36). -/
def keptWindow (edges : Nat) : BitVec 16 := BitVec.ofNat 16 (min 65535 edges)

/-- The judgement of a window at the Time Base (R145 to R147): the count itself is judged, and kept saturated. -/
def TimeBase.judgeWindow (c : TimeBase) (edges : Nat) : TimeBase :=
  if windowPasses edges then
    let passes := min 4 (c.passCount + 1)
    { c with
      lastWindow := some (keptWindow edges)
      passCount := passes
      source := if passes = 4 then .crystal else c.source }
  else
    { c with
      lastWindow := some (keptWindow edges)
      passCount := 0
      source := .internal
      calendar := if c.source = .crystal ∧ c.calendar = .trueTime then .drifting else c.calendar }

/-- A window whose failure switches the source to INTERNAL (R146). -/
def TimeBase.fallsBack (c : TimeBase) (edges : Nat) : Bool := c.source == .crystal && !(windowPasses edges)

/-- The calendar set by a SET_CLOCK (R151): u is zeroed and the state follows the source. -/
def TimeBase.setTo (c : TimeBase) (t : Nat) : TimeBase :=
  { c with
    depotTime := t
    u := 0
    calendar := (match c.source with
      | .crystal => .trueTime
      | .internal => .drifting) }

/-! ## Expiries that are due -/

/-- The passage of the outdoor value to AGED (R43), due when its age has passed 900 s while FRESH. Not due, it does nothing
(log 5). -/
def State.takeOutdoorAged (s : State) : State :=
  if s.planner.outdoorState = .fresh ∧ 900 < s.planner.outdoorAge then
    { s with planner := { s.planner with outdoorState := .aged }, cab := s.cab.raise .outdoorStale }
  else s

/-- Every lease expiry that is due is taken, in outlet-number order. -/
def State.takeLeaseExpiries (s : State) : State :=
  s.onCabinet fun env c => outletNumbers.foldl (fun c o => c.takeLeaseExpiry env o) c

/-- Every residual lease expiry that is due is taken, in outlet-number order. -/
def State.takeResidualExpiries (s : State) : State :=
  s.onCabinet fun _ c => outletNumbers.foldl (fun c o => c.takeResidualExpiry o) c

/-- Every expiry that is due is taken: leases, residual leases, the outdoor age, the grant boundary (log 6). -/
def State.settle (s : State) : State := s.takeLeaseExpiries.takeResidualExpiries.takeOutdoorAged.takeBoundary

/-! ## Source seconds -/

/-- The outdoor age counts a source second while a value has been set (R43). -/
def Planner.countSecond (p : Planner) : Planner :=
  match p.outdoorState with
  | .unknown => p
  | .fresh => { p with outdoorAge := min 65535 (p.outdoorAge + 1) }
  | .aged => { p with outdoorAge := min 65535 (p.outdoorAge + 1) }

/-- The interval timer counts a source second; the last one makes the boundary due (R92). -/
def Arbiter.countSecond (a : Arbiter) : Arbiter :=
  if a.secondsLeft ≤ 1 then { a with boundaryDue := true } else { a with secondsLeft := a.secondsLeft - 1 }

/-- A source second reaches u, the interval timer, the outdoor age, the leases and the residual leases (R141). -/
def State.countSecond (s : State) : State :=
  { s with
    clock := s.clock.countU
    arbiter := s.arbiter.countSecond
    planner := s.planner.countSecond
    cab := { s.cab with outlets := s.cab.outlets.map Outlet.countSecond } }

/-- The calendar reaches the end of its range (R144): it becomes UNSET, CLOCK_UNSET is raised and the Book is told. -/
def State.endOfRange (s : State) : State :=
  let s1 := { s with clock := s.clock.toUnset, cab := s.cab.raise .clockUnset }
  s1.onCabinet fun env c => c.becomeUnset env

/-- A source second reaches the calendar (R138, R142, R144). -/
def State.calendarSecond (s : State) : State :=
  if s.clock.canAdvance then
    let s1 := { s with clock := s.clock.advance }
    let s2 := s1.onCabinet fun env c => c.calendarSecond env
    if s1.clock.depotTime = Config.lastDepotTime then s2.endOfRange else s2
  else s

/-- A source second with the main domain supplied (R141). What an earlier second left due is taken first (log 6). DESIGN CHOICE
(log 7): u's count and every other count of the second come before the calendar's event in both orders, so a plan made at that event
reads u with the second counted; what the second makes due is taken before the calendar's event, or stays due after it. -/
def State.mainSecond (s : State) (order : SecondOrder) : State :=
  let s1 := s.settle.countSecond
  match order with
  | .calendarFirst => s1.calendarSecond
  | .expiriesFirst => s1.settle.calendarSecond

/-- A source second (R141, R155): without any supply there is no source to deliver one. -/
def State.sourceSecond (s : State) (order : SecondOrder) : State :=
  match s.supply with
  | .main => s.mainSecond order
  | .backupOnly => { s with clock := s.clock.secondAlone }
  | .none => s

/-- The source seconds recovered at a switch, delivered one after another (R148), each in its own order (R142; log 7, log 24). -/
def State.recoverSeconds (s : State) (orders : List SecondOrder) : State := orders.foldl State.sourceSecond s

/-- The end of a supervisor window (R145 to R148). A fallback raises CLOCK_FALLBACK when the main domain is supplied (R155) and
delivers the seconds recovered. -/
def State.endWindow (s : State) (edges : Nat) (recovered : List SecondOrder) : State :=
  let s1 := { s with clock := s.clock.judgeWindow edges }
  match s.supply with
  | .none => s
  | .backupOnly => if s.clock.fallsBack edges then s1.recoverSeconds recovered else s1
  | .main =>
    if s.clock.fallsBack edges then { s1 with cab := s1.cab.raise .clockFallback }.recoverSeconds recovered else s1

/-! ## SET_CLOCK's change -/

/-- A valid SET_CLOCK taken (R151, R152): the calendar is set, the Book is told, and the end of the span makes it UNSET again. -/
def State.takeClock (s : State) (t1 : Nat) : State :=
  let s1 := { s with clock := s.clock.setTo t1 }
  let s2 := s1.onCabinet fun env c =>
    if s.clock.isSet then c.clockJump env s.clock.depotTime else c.leaveUnset env
  if t1 = Config.lastDepotTime then s2.endOfRange else s2

end Sys2Proof.Machine
end

