-- ==== Sys2Proof/Machine/Resets.lean ====
section
/-!
DEFINITION. The kinds of reset (00, section 5.5): main reset, backup loss, loss of main power, and restart; and shedding and quiesce
(08).
-/

namespace Sys2Proof.Machine

/-! ## Main reset, supplies -/

/-- The cabinet after a main reset, before its notices (R28, R89, R110, R137, R170, R179). The model's count of free values goes
on. -/
def Cabinet.afterReset (c : Cabinet) : Cabinet :=
  { book := [], outcomes := [], nextSerial := 0, outlets := .all .afterReset, quiesce := .none, notices := .afterReset
    freeCount := c.freeCount }

/-- The main domain at the values a main reset gives it, with no notice raised (R28, R39, R64, R89, R110, R137, R170, R179, R199). -/
def State.mainCleared (s : State) : State :=
  { s with
    planner := .afterReset
    profiles := .all none
    arbiter := .afterReset
    shed := { filter := .deasserted, latch := false }
    cab := s.cab.afterReset
    port := .afterReset }

/-- The notices the Time Base raises at the end of a main reset (R157, R179). -/
def Cabinet.raiseAtReset (c : Cabinet) (clock : TimeBase) : Cabinet :=
  let c1 := if clock.calendar = .unset then c.raise .clockUnset else c
  if clock.source = .internal ∨ clock.calendar = .drifting then c1.raise .clockFallback else c1

/-- A main reset (R28, R157, R179): the main domain starts afresh with its supply present, the Time Base stands. -/
def State.mainReset (s : State) : State :=
  let s1 := { s.mainCleared with supply := .main }
  { s1 with cab := s1.cab.raiseAtReset s1.clock }

/-- The main supply fails while the backup cell holds (R155): the main domain is without supply, the Time Base goes on. What the main
domain holds until its reset cannot be observed; its lines are released (log 13). -/
def State.losePower (s : State) : State :=
  match s.supply with
  | .main => { s.mainCleared with supply := .backupOnly }
  | .backupOnly => s
  | .none => s

/-- Both supplies absent (R156): the backup domain starts again from its initial values when power returns (log 14). -/
def State.loseBackup (s : State) : State :=
  { s.mainCleared with supply := .none, clock := .afterBackupLoss, ms := 0 }

/-! ## Restart -/

/-- One outlet at a restart (R197): the residual lease is taken from the lease remaining of a nonzero acknowledged grant, the session
and the plug filter are cleared, and the grants zeroed without a record; the sequence numbers stand. -/
def Outlet.restart (out : Outlet) : Outlet :=
  { plug := .deasserted
    session := .cleared
    grants := { out.grants with released := 0, deferred := none, mark := none }
    residual := if 0 < out.session.ackedWatts then out.session.lease else 0
    residualDue := false }

/-- An entry at a restart (R29): unbound and BOOKED; its execution record and occurrence outlet stand. -/
def Entry.restart (e : Entry) : Entry := { e.toBooked with bound := none }

/-- A restart (R197), as one whole and in its order. DESIGN CHOICE (log 6): a boundary that is due and not taken yet is dropped with the
interval that the restart interrupts (R111), and its pending values become active at the next one. -/
def State.restart (s : State) : State :=
  let c := { s.cab with outlets := s.cab.outlets.map Outlet.restart, book := s.cab.book.map Entry.restart }
  { s with
    cab := c.completionTest
    arbiter := { s.arbiter with secondsLeft := s.arbiter.activeInterval, boundaryDue := false } }

/-! ## Shedding and quiesce -/

/-- The filtered load-shed level becomes asserted (R159): the latch is set, the stop release carried out, SHED_ENTERED raised. Asserted
already, it does not become so (log 5). -/
def State.shedAsserted (s : State) : State :=
  if s.shed.filter.asserted then s
  else
    { s with
      shed := { filter := { asserted := true, run := 0 }, latch := true }
      cab := (s.cab.stopRelease s.env).raise .shedEntered }

/-- The filtered load-shed level becomes deasserted (R160): SHED_RELEASED is raised and the latch stays. -/
def State.shedDeasserted (s : State) : State :=
  if s.shed.filter.asserted then
    { s with shed := { s.shed with filter := .deasserted }, cab := s.cab.raise .shedReleased }
  else s

/-- A sample of the load-shed line (R158): the third consecutive differing one makes its level the filtered level, with all that
follows from it. -/
def State.shedSample (s : State) (level : Bool) : State :=
  match s.shed.filter.sample level with
  | some f => { s with shed := { s.shed with filter := f } }
  | none => if level then s.shedAsserted else s.shedDeasserted

/-- A QUIESCE taken (R165): in NONE the state becomes QUIESCING, the stop release is carried out and the completion test made. -/
def State.startQuiesce (s : State) : State :=
  match s.cab.quiesce with
  | .none => { s with cab := ({ s.cab with quiesce := .quiescing }.stopRelease s.env).completionTest }
  | .quiescing => s
  | .quiesced => s

/-- An accepted RESUME (R163): the latch is cleared and the quiesce state becomes NONE. -/
def State.resumed (s : State) : State :=
  { s with shed := { s.shed with latch := false }, cab := { s.cab with quiesce := .none } }

end Sys2Proof.Machine
end

