-- ==== Sys2Proof/Machine/Port.lean ====
section
/-!
DEFINITION. The Site Link Port (10): the receiver, taking and holding requests, BUSY answers, the transmitter, and the processing of
the current request.
-/

namespace Sys2Proof.Machine

/-- The discard count, saturating (R183). -/
def Port.countDiscard (p : Port) : Port := { p with discards := min 65535 (p.discards + 1) }

/-- A frame in progress abandoned: its bytes are lost, the discard count advances and the receiver returns to HUNT (R183). -/
def Port.abandon (p : Port) : Port := { p.countDiscard with receiver := .hunt }

/-- A frame formed (R188): an IDLE transmitter begins it at once, otherwise it goes behind those formed before it. -/
def Port.formFrame (p : Port) (f : OutFrame) : Port :=
  match p.sending with
  | none => { p with sending := some f }
  | some _ => { p with outbox := p.outbox ++ [f] }

/-- The bytes of a frame as SL_TXD carries them (R182, R200). -/
def OutFrame.bytes (f : OutFrame) : List Byte := siteFrame f.ty f.payload

/-- The TYPE of a reply: the request's plus 0x80, modulo 256 (R186, R187). -/
def replyType (ty : Byte) : Byte := ty + 0x80

/-- The BUSY answers waiting for the transmitter (R186). -/
def Port.waiting (p : Port) : List OutFrame := p.outbox.filter fun f => !f.isReply

/-- A request answered BUSY (R186): with four answers waiting it is dropped and counted. -/
def Port.answerBusy (p : Port) (r : Request) : Port :=
  if Config.waitingCapacity ≤ p.waiting.length then p.countDiscard
  else p.formFrame { isReply := false, ty := replyType r.ty, payload := [statusCode .busy] }

/-- A complete request that comes while another is being answered (R185): it is held unexamined, or answered BUSY. -/
def Port.holdRequest (p : Port) (r : Request) : Port :=
  match p.held with
  | none => { p with held := some r }
  | some _ => p.answerBusy r

/-- The CRC of a received frame, over LEN, TYPE and payload (R184). -/
def frameCrc (len : Byte) (body : List Byte) : BitVec 16 := crc16 (len :: body)

/-- The second CRC byte received (R184): a match makes a complete request, a mismatch is discarded and counted. -/
def Port.judgeFrame (p : Port) (len : Byte) (body : List Byte) (high low : Byte) : Port × Option Request :=
  let p1 := { p with receiver := .hunt }
  if (frameCrc len body).toNat = high.toNat * 256 + low.toNat then
    match body with
    | ty :: payload => (p1, some { ty := ty, payload := payload })
    | [] => (p1, none)
  else (p1.countDiscard, none)

/-- A character with a good stop bit (R182): the port after it, and the request that it completes. -/
def Port.receive (p : Port) (b : Byte) : Port × Option Request :=
  match p.receiver with
  | .hunt => (if b = 0xC3 then { p with receiver := .length } else p, none)
  | .length => (if 1 ≤ b.toNat ∧ b.toNat ≤ 250 then { p with receiver := .body b [] } else p.abandon, none)
  | .body len bytes =>
    let body := bytes ++ [b]
    (if body.length < len.toNat then { p with receiver := .body len body } else { p with receiver := .check len body none }, none)
  | .check len body none => ({ p with receiver := .check len body (some b) }, none)
  | .check len body (some high) => p.judgeFrame len body high b

/-- A frame in progress is abandoned, and in HUNT nothing is counted (R183). -/
def Port.breakFrame (p : Port) : Port :=
  match p.receiver with
  | .hunt => p
  | .length => p.abandon
  | .body _ _ => p.abandon
  | .check _ _ _ => p.abandon

/-- The port as a byte finds it at the time `now`: a frame in progress whose gap is over is abandoned first, and the byte is taken in
HUNT (R183). -/
def Port.beforeByte (p : Port) (now : Nat) : Port := if p.lastByteAt + Config.frameGap < now then p.breakFrame else p

/-- The current request's reply formed (R187, R188): REPLYING, and the reply takes its place in the transmitter's order. -/
def Port.formReply (p : Port) : Port :=
  match p.current with
  | none => p
  | some cur =>
    match cur.phase with
    | .processed reply =>
      { p with current := some { cur with phase := .replying } }.formFrame
        { isReply := true, ty := replyType cur.request.ty, payload := reply }
    | .replying => p

/-- The transmitter finishes its frame and begins the oldest one waiting (R188). -/
def Port.nextFrame (p : Port) : Port :=
  match p.outbox with
  | f :: rest => { p with sending := some f, outbox := rest }
  | [] => { p with sending := none }

/-- The end of the current request's answer at the port (R189): the port becomes free and the held slot empty. -/
def Port.endAnswer (p : Port) : Port := { p with current := none, held := none }

/-- The request is a RESTART that was taken: one with a payload was refused BAD_LENGTH (R187, R197). -/
def Request.isRestart (r : Request) : Bool := r.ty == 0x17 && r.payload.isEmpty

/-! ## Processing -/

/-- How a request is processed by its owning block: from the payload and the state, the state after it and the reply's payload, whose
first byte is the status (R187, R191). -/
abbrev Handler := List Byte → State → State × List Byte

/-- A reply that carries a status alone (R191). -/
def replyStatus (st : Status) : List Byte := [statusCode st]

/-- A refusal: the status alone, and no effect (R191). -/
def refuse (st : Status) (s : State) : State × List Byte := (s, replyStatus st)

/-- The current request `r` processed (R187): the block's effect is taken, and the reply's payload kept until the reply is formed. -/
def State.process (s : State) (r : Request) (handler : Handler) : State :=
  let done := handler r.payload s
  { done.1 with port := { done.1.port with current := some { request := r, phase := .processed done.2 } } }

/-- A complete request handed to the port (R185): in a free port it becomes current and is processed at once; behind another it is held or
answered BUSY. -/
def State.request (s : State) (r : Request) (handler : Handler) : State :=
  match s.port.current with
  | none => s.process r handler
  | some _ => { s with port := s.port.holdRequest r }

end Sys2Proof.Machine
end

