-- ==== Sys2Proof/Machine/Replies.lean ====
section
/-!
DEFINITION. The payloads of the replies that read state (R203, R205 to R207).
-/

namespace Sys2Proof.Machine

/-- A time: 7 bytes (R201). -/
def encTime (t : Nat) : List Byte :=
  let c := calendarTimeOf t
  enc16 c.year ++ enc8 c.month ++ enc8 c.day ++ enc8 c.hour ++ enc8 c.minute ++ enc8 c.second

/-- An optional time (R201). -/
def encOptTime (t : Option Nat) : List Byte :=
  match t with
  | some v => 0x01 :: encTime v
  | none => 0x00 :: absentBytes 7

/-- A notice set: 2 bytes with bits 13 to 15 clear (R201). -/
def encNotices (n : NoticeSet) : List Byte := enc16 n.toNat

/-- A condition set: 1 byte (R201). -/
def encConditions (c : Conditions) : List Byte := [c]

/-- An outlet number or its absence. -/
def encOutlet (o : Option OutletNo) : List Byte := encOpt8 (o.map fun x => x.val)

/-- An outlet set: bit k for outlet k (R205). -/
def encOutletSet (member : OutletNo → Bool) : List Byte :=
  [outletNumbers.foldl (fun acc o => if member o then acc ||| (1 <<< o.val) else acc) (0 : Byte)]

/-- The OK status followed by the fields of a reply. -/
def okReply (fields : List Byte) : List Byte := statusCode .ok :: fields

/-! ## READ_CLOCK, READ_STATUS, IDENTIFY -/

/-- The OK reply to READ_CLOCK (R153, R205). -/
def clockReply (c : TimeBase) : List Byte :=
  okReply (encTime c.depotTime ++ enc8 (weekdayOf c.depotTime) ++ enc32 c.depotTime ++ [calendarCode c.calendar]
    ++ [sourceCode c.source] ++ enc32 c.u ++ enc8 c.passCount
    ++ (match c.lastWindow with
      | some w => 0x01 :: enc16 w.toNat
      | none => 0x00 :: absentBytes 2))

/-- The OK reply to IDENTIFY (R192, R205): "Rotilan", "Wejtor", "W8C", "C" and the capacities. -/
def identifyReply : List Byte :=
  okReply (encString [0x52, 0x6F, 0x74, 0x69, 0x6C, 0x61, 0x6E] ++ encString [0x57, 0x65, 0x6A, 0x74, 0x6F, 0x72]
    ++ encString [0x57, 0x38, 0x43] ++ encString [0x43] ++ enc8 8 ++ enc8 32 ++ enc8 16 ++ enc8 16)

/-- The sum of the released grants (R109). -/
def Cabinet.releasedSum (c : Cabinet) : Nat := (c.outlets.toList.map fun out => out.grants.released).sum

/-- How many outlets are in the reduction-pending set (R109). -/
def Cabinet.reductionCount (c : Cabinet) : Nat := (c.outlets.toList.filter fun out => out.grants.mark.isSome).length

/-- The greatest residual lease of any outlet (R172). -/
def Cabinet.greatestResidual (c : Cabinet) : Nat := c.outlets.toList.foldl (fun m out => max m out.residual) 0

/-- The OK reply to READ_STATUS (R193, R206). -/
def statusReply (s : State) : List Byte :=
  okReply ([calendarCode s.clock.calendar] ++ encTime s.clock.depotTime
    ++ [outdoorCode s.planner.outdoorState] ++ encTemp s.planner.outdoor ++ encMark s.planner.outdoorClamped
    ++ enc16 s.planner.outdoorAge ++ enc16 s.planner.baseMargin
    ++ enc32 s.arbiter.pendingAllowance ++ enc32 s.arbiter.activeAllowance ++ enc8 s.arbiter.pendingInterval
    ++ enc8 s.arbiter.activeInterval ++ enc8 s.arbiter.secondsLeft ++ enc32 s.cab.releasedSum ++ enc8 s.cab.reductionCount
    ++ encMark s.shed.filter.asserted ++ encMark s.shed.latch ++ [quiesceCode s.cab.quiesce] ++ enc8 s.cab.holdingCount
    ++ enc8 s.cab.greatestResidual
    ++ enc8 s.cab.book.length ++ enc8 s.cab.outcomes.length ++ enc16 s.cab.nextSerial.toNat
    ++ s.cab.outlets.toList.map (fun out => sessionStateCode out.session.state)
    ++ encMark s.cab.notices.attention ++ enc16 s.port.discards)

/-- The four bytes of a QUIESCE or RESUME reply (R163, R165, R205). -/
def sheddingReply (st : Status) (s : State) : List Byte :=
  [statusCode st] ++ encMark s.shed.latch ++ encMark s.shed.filter.asserted ++ [quiesceCode s.cab.quiesce]

/-! ## Profiles -/

/-- The 26 bytes of a profile record's fields (R205). -/
def encProfile (p : Profile) : List Byte :=
  encS16 p.heatCapacity ++ encS16 p.lossCoefficient ++ enc16 p.maxDraw ++ enc16 p.minDraw
    ++ encS16 p.p0.temp ++ encS16 p.p0.factor ++ encS16 p.p1.temp ++ encS16 p.p1.factor
    ++ encS16 p.p2.temp ++ encS16 p.p2.factor ++ encS16 p.p3.temp ++ encS16 p.p3.factor ++ enc16 p.defrost

/-- The OK reply to READ_PROFILE (R36, R205). -/
def profileReply (s : State) (p : SlotNo) : List Byte :=
  okReply ((match s.profiles.get p with
    | some x => 0x01 :: encProfile x
    | none => 0x00 :: absentBytes 26)
    ++ encOutletSet fun o => (s.cab.session o).uses p)

/-! ## The book -/

/-- One entry summary of READ_BOOK, 25 bytes (R15, R205). -/
def Entry.summary (e : Entry) : List Byte :=
  enc8 e.number ++ encTag e.tag ++ [kindCode e.booking] ++ encOptTime e.next ++ enc8 (entryStateCode e.state)
    ++ encOutlet e.bound

/-- The OK reply to READ_BOOK from a start position (R15, R205). -/
def bookReply (c : Cabinet) (start : Nat) : List Byte :=
  let page := (c.bookOrder.drop start).take 8
  okReply (enc8 c.book.length ++ enc8 page.length ++ page.flatMap Entry.summary)

/-- The seven bytes at offset 16 of a READ_ENTRY reply (R203). -/
def encBooking (b : Booking) : List Byte :=
  match b with
  | .oneShot d => encTime d
  | .recurring p =>
    enc8 p.minute ++ enc8 p.hour ++ [p.weekdays.setWidth 8] ++ encOpt8 p.day ++ encOpt8 p.month ++ absentBytes 2

/-- The plan group of a READ_ENTRY reply, 23 bytes (R203). -/
def encPlan (e : Entry) : List Byte :=
  match e.plan with
  | some p =>
    0x01 :: (encTime p.start ++ enc16 p.leadTime ++ enc16 p.warmSeconds ++ enc16 p.defrostLeft ++ enc16 p.holdPower
      ++ enc16 e.demand ++ encS32 p.slack ++ encConditions p.conditions)
  | none => 0x00 :: absentBytes 22

/-- The snapshot group of a READ_ENTRY reply, 5 bytes (R203). -/
def encSnapshot (s : Option Snapshot) : List Byte :=
  match s with
  | some x => [0x01, readinessCode x.readiness] ++ encTemp x.cabin ++ encMark x.stale
  | none => 0x00 :: absentBytes 4

/-- The execution group of a READ_ENTRY reply, 29 bytes (R203). -/
def encExecution (x : Option Execution) : List Byte :=
  match x with
  | some v =>
    0x01 :: (encOptTime v.warmingBegan ++ encOptTime v.targetReached ++ enc32 (v.energy / 3600) ++ enc16 v.defrostSpent
      ++ encSnapshot v.snapshot ++ encConditions v.conditions)
  | none => 0x00 :: absentBytes 28

/-- The OK reply to READ_ENTRY (R195, R203). -/
def entryReply (e : Entry) : List Byte :=
  okReply (enc8 e.number ++ encTag e.tag ++ [kindCode e.booking] ++ encBooking e.booking ++ encS16 e.target ++ enc8 e.grace
    ++ encOptTime e.next ++ enc8 (entryStateCode e.state) ++ encOutlet e.bound ++ encOutlet e.occurrenceOutlet
    ++ encMark e.unreachable ++ encPlan e ++ encExecution e.exec)

/-! ## Outcomes -/

/-- One record of READ_OUTCOMES, 42 bytes (R203). -/
def OutcomeRecord.encode (r : OutcomeRecord) : List Byte :=
  enc16 r.serial.toNat ++ enc8 r.number ++ encTag r.tag ++ encOutlet r.outlet ++ encTime r.scheduled
    ++ [readinessCode r.readiness]
    ++ (match r.cabin with
      | some (t, stale) => encS16 t ++ encMark stale
      | none => [0x80, 0x00, 0xFF])
    ++ encOptTime r.targetReached ++ enc32 r.energy ++ [endCauseCode r.cause] ++ encConditions r.conditions

/-- The OK reply to READ_OUTCOMES (R86, R203). -/
def outcomesReply (c : Cabinet) : List Byte :=
  okReply (enc8 c.outcomes.length ++ enc16 c.nextSerial.toNat ++ (c.outcomes.take 4).flatMap OutcomeRecord.encode)

/-! ## READ_OUTLET -/

/-- The last-report group, 11 bytes (R207). -/
def encReport (r : Option Report) (now : Nat) : List Byte :=
  match r with
  | some x =>
    0x01 :: (encS16 x.cabin ++ encMark x.clamped ++ enc16 x.draw
      ++ (match x.named with
        | some q => 0x01 :: enc16 q.toNat
        | none => 0x00 :: absentBytes 2)
      ++ enc16 (min 65535 (now - x.receivedAt)))
  | none => 0x00 :: absentBytes 10

/-- The acknowledgement group, 7 bytes (R207); the expired mark is set while a record is held whose lease remaining is 0. -/
def encAcked (s : Session) : List Byte :=
  match s.acked with
  | some a => 0x01 :: (enc16 a.seq.toNat ++ enc16 a.watts ++ enc8 s.lease ++ encMark (s.lease == 0))
  | none => 0x00 :: absentBytes 6

/-- One queue record, 6 bytes (R207). -/
def QueueRecord.encode (r : QueueRecord) (inFlight : Bool) : List Byte :=
  (match r.body with
    | .welcome _ none => [kindWelcome, 0xFF, 0xFF, 0x00]
    | .welcome _ (some _) => [kindWelcome, 0xFF, 0xFF, 0x01]
    | .grant seq _ _ => [kindGrant] ++ enc16 seq.toNat ++ [0xFF]
    | .stop seq _ => [kindStop] ++ enc16 seq.toNat ++ [0xFF])
    ++ encMark inFlight ++ encMark r.stale

/-- The queue's 24 bytes (R207): each record from the head, unused places 0xFF throughout. -/
def encQueue (s : Session) : List Byte :=
  let used := match s.queue with
    | [] => []
    | r :: rest => r.encode s.headInFlight ++ rest.flatMap (fun q => q.encode false)
  (used ++ absentBytes (24 - used.length)).take 24

/-- The sent list's 8 bytes (R207). -/
def encSent (sent : List SentRecord) : List Byte :=
  let used := sent.flatMap fun r => enc16 r.seq.toNat
  (used ++ absentBytes (8 - used.length)).take 8

/-- The channel's code (R201). -/
def encChannel (c : Channel) : List Byte :=
  match c with
  | .idle => [0x00]
  | .inFlight _ _ => [0x01]

/-- An optional code, 0xFF when absent. -/
def encOptCode (b : Option Byte) : List Byte :=
  match b with
  | some v => [v]
  | none => [0xFF]

/-- The reduction mark with its presence byte (R207). -/
def encReduction (m : Option Seq) : List Byte :=
  match m with
  | some v => 0x01 :: enc16 v.toNat
  | none => 0x00 :: absentBytes 2

/-- The OK reply to READ_OUTLET (R194, R207). -/
def outletReply (c : Cabinet) (o : OutletNo) (now : Nat) : List Byte :=
  let out := c.outlet o
  let s := out.session
  let lead := c.leadOf o
  okReply (encMark out.plug.asserted ++ [sessionStateCode s.state] ++ encOptCode (s.cameFrom.map cameFromCode)
    ++ encTag (s.tag.getD []) ++ encOpt8 (s.profile.map fun p => p.val) ++ encOptCode (s.cause.map causeCode)
    ++ encOptCode (s.endReason.map endReasonCode) ++ enc8 s.misses ++ enc8 s.overdraw
    ++ encReport s.lastReport now ++ encAcked s ++ enc8 out.residual ++ encChannel s.channel
    ++ enc8 s.sent.length ++ encSent s.sent ++ enc8 s.queue.length ++ encQueue s
    ++ enc16 out.grants.released ++ enc16 out.grants.lastSeq.toNat ++ encOpt16 out.grants.deferred
    ++ encReduction out.grants.mark ++ encOpt8 (lead.map fun e => e.number)
    ++ encOpt8 (lead.map fun e => entryStateCode e.state)
    ++ enc8 (c.book.filter fun e => e.bound == some o).length)

end Sys2Proof.Machine
end

