-- ==== Sys2Proof/Machine/Requests.lean ====
section
/-!
DEFINITION. The processing of each request by the block that owns it: the length check (R187), the checks of the content in the order
the owning chapter gives them, the effect, and the reply's payload (R191 to R197, R205 to R207).
-/

namespace Sys2Proof.Machine

/-- The port's length check (R187): a payload of another length never reaches the block. -/
def withLength (n : Nat) (handler : Handler) : Handler := fun p s =>
  if p.length = n then handler p s else refuse .badLength s

/-- A TYPE outside the catalogue (R187). -/
def handleUnknown : Handler := fun _ s => refuse .unknownType s

/-! ## Reading requests of the whole part -/

/-- IDENTIFY (R192). -/
def handleIdentify : Handler := withLength 0 fun _ s => (s, identifyReply)

/-- READ_STATUS (R193). -/
def handleReadStatus : Handler := withLength 0 fun _ s => (s, statusReply s)

/-- READ_CLOCK (R153). -/
def handleReadClock : Handler := withLength 0 fun _ s => (s, clockReply s.clock)

/-! ## Settings -/

/-- The calendar value in the seven bytes at offset `i` (R201). -/
def calendarAt (p : List Byte) (i : Nat) : CalendarTime :=
  { year := u16At p i, month := u8At p (i + 2), day := u8At p (i + 3), hour := u8At p (i + 4), minute := u8At p (i + 5)
    second := u8At p (i + 6) }

/-- SET_CLOCK (R150, R151): a value that is no date and time is refused, any other is taken. -/
def handleSetClock : Handler := withLength 7 fun p s =>
  let v := calendarAt p 0
  if v.valid then
    let s1 := s.takeClock (depotTimeOf v)
    (s1, okReply [calendarCode s1.clock.calendar])
  else refuse .outOfRange s

/-- SET_SITE taken (R46, R91): the interval becomes pending, the base margin stands from now on. -/
def State.setSite (s : State) (interval margin : Nat) : State :=
  { s with
    arbiter := { s.arbiter with pendingInterval := max 5 (min 60 interval) }
    planner := { s.planner with baseMargin := min 900 margin } }

/-- SET_SITE (R46, R91, R205). -/
def handleSetSite : Handler := withLength 4 fun p s =>
  let s1 := s.setSite (u16At p 0) (u16At p 2)
  (s1, okReply (enc16 s1.arbiter.pendingInterval ++ enc16 s1.planner.baseMargin))

/-- SET_ALLOWANCE taken (R90). -/
def State.setAllowance (s : State) (watts : Nat) : State :=
  { s with arbiter := { s.arbiter with pendingAllowance := min 250000 watts } }

/-- SET_ALLOWANCE (R90, R205). -/
def handleSetAllowance : Handler := withLength 4 fun p s =>
  let s1 := s.setAllowance (u32At p 0)
  (s1, okReply (enc32 s1.arbiter.pendingAllowance))

/-- The outdoor value set (R42). -/
def Planner.setOutdoor (p : Planner) (temp : Int) : Planner :=
  let v := max (-500) (min 600 temp)
  { p with outdoorState := .fresh, outdoor := some v, outdoorClamped := v != temp, outdoorAge := 0 }

/-- SET_OUTDOOR taken (R42): the value is stored and every bound lead planned again. A passage to AGED that its second has made due
comes first, with its notice (R43). -/
def State.setOutdoor (s : State) (temp : Int) : State :=
  let s1 := s.takeOutdoorAged
  { s1 with planner := s1.planner.setOutdoor temp }.onCabinet fun env c => c.replanAll env

/-- SET_OUTDOOR (R42, R205). -/
def handleSetOutdoor : Handler := withLength 2 fun p s =>
  let s1 := s.setOutdoor (s16At p 0)
  (s1, okReply (encTemp s1.planner.outdoor ++ encMark s1.planner.outdoorClamped))

/-! ## Profiles -/

/-- The factor point at offset `i`: temperature signed, factor unsigned (R200). -/
def factorPointAt (p : List Byte) (i : Nat) : FactorPoint := { temp := s16At p i, factor := (u16At p (i + 2) : Int) }

/-- The profile record carried by a LOAD_PROFILE (R200). -/
def profileIn (p : List Byte) : Profile :=
  { heatCapacity := (u16At p 1 : Int), lossCoefficient := (u16At p 3 : Int), maxDraw := u16At p 5, minDraw := u16At p 7
    p0 := factorPointAt p 9, p1 := factorPointAt p 13, p2 := factorPointAt p 17, p3 := factorPointAt p 21
    defrost := u16At p 25 }

/-- The scalar fields are in range (R31). -/
def Profile.scalarsOk (p : Profile) : Bool :=
  20 ≤ p.heatCapacity && p.heatCapacity ≤ 400 && 10 ≤ p.lossCoefficient && p.lossCoefficient ≤ 400
    && 1000 ≤ p.maxDraw && p.maxDraw ≤ 12000 && 500 ≤ p.minDraw && p.minDraw ≤ p.maxDraw && p.defrost ≤ 900

/-- A factor point is in range (R32). -/
def FactorPoint.ok (q : FactorPoint) : Bool := -500 ≤ q.temp && q.temp ≤ 300 && 50 ≤ q.factor && q.factor ≤ 400

/-- The delivery-factor table is in range and strictly ascending (R32). -/
def Profile.tableOk (p : Profile) : Bool :=
  p.p0.ok && p.p1.ok && p.p2.ok && p.p3.ok && p.p0.temp < p.p1.temp && p.p1.temp < p.p2.temp && p.p2.temp < p.p3.temp

/-- A profile slot number, none outside 0..15. -/
def slotOf (n : Nat) : Option SlotNo := if h : n < 16 then some ⟨n, h⟩ else none

/-- A slot is in use (R33). -/
def Cabinet.slotInUse (c : Cabinet) (p : SlotNo) : Bool := outletNumbers.any fun o => (c.session o).uses p

/-- LOAD_PROFILE taken (R34): the slot holds the record, and UNMATCHED sessions that name it are considered. -/
def State.loadProfile (s : State) (p : SlotNo) (r : Profile) : State :=
  { s with profiles := s.profiles.set p (some r) }.onCabinet fun env c => c.retestProfile env p

/-- LOAD_PROFILE (R31 to R34). -/
def handleLoadProfile : Handler := withLength 27 fun b s =>
  match slotOf (u8At b 0) with
  | none => refuse .outOfRange s
  | some p =>
    if (profileIn b).scalarsOk && (profileIn b).tableOk then
      if s.cab.slotInUse p then refuse .inUse s else (s.loadProfile p (profileIn b), okReply [])
    else refuse .outOfRange s

/-- READ_PROFILE (R36). -/
def handleReadProfile : Handler := withLength 1 fun b s =>
  match slotOf (u8At b 0) with
  | none => refuse .outOfRange s
  | some p => (s, profileReply s p)

/-- CLEAR_PROFILE (R35). -/
def handleClearProfile : Handler := withLength 1 fun b s =>
  match slotOf (u8At b 0) with
  | none => refuse .outOfRange s
  | some p =>
    if s.cab.slotInUse p then refuse .inUse s
    else ({ s with profiles := s.profiles.set p none }, okReply [])

/-! ## The book -/

/-- What an accepted BOOK carries. -/
structure BookRequest where
  tag : Tag
  booking : Booking
  target : Int
  grace : Nat
  deriving DecidableEq, Repr

/-- An optional pattern part: 0xFF is absence (R202). -/
def optPart (n : Nat) : Option Nat := if n = 255 then none else some n

/-- The pattern of a RECURRING booking, none when a field is out of range (R11, R202). -/
def patternIn (p : List Byte) : Option Pattern :=
  let minute := u8At p 17
  let hour := u8At p 18
  let mask := byteAt p 19
  let day := optPart (u8At p 20)
  let month := optPart (u8At p 21)
  if minute ≤ 59 && hour ≤ 23 && mask.toNat < 128
      && (match day with | some d => 1 ≤ d && d ≤ 31 | none => true)
      && (match month with | some m => 1 ≤ m && m ≤ 12 | none => true) then
    some { minute := minute, hour := hour, weekdays := mask.setWidth 7, day := day, month := month }
  else none

/-- The booked departure of a ONE_SHOT booking, none when a field is out of range (R11, R202). -/
def departureIn (p : List Byte) : Option Nat :=
  let v : CalendarTime :=
    { year := u16At p 17, month := u8At p 19, day := u8At p 20, hour := u8At p 21, minute := u8At p 22, second := 0 }
  if v.valid then some (depotTimeOf v) else none

/-- The kind with its departure or pattern, none when out of range (R11). -/
def bookingIn (p : List Byte) : Option Booking :=
  match u8At p 13 with
  | 1 => (departureIn p).map .oneShot
  | 2 => (patternIn p).map .recurring
  | _ => none

/-- The range checks of a BOOK (R11): what it carries, none when a field is out of range. -/
def bookRequestIn (p : List Byte) : Option BookRequest :=
  match tagAt p 0, bookingIn p with
  | some tag, some booking =>
    let target := s16At p 14
    let grace := u8At p 16
    if 150 ≤ target && target ≤ 280 && grace ≤ 60 then
      some { tag := tag, booking := booking, target := target, grace := grace }
    else none
  | _, _ => none

/-- The length of a BOOK fits its kind (R187, R202): a kind byte that names neither kind passes with either length. -/
def bookLengthOk (p : List Byte) : Bool :=
  (p.length == 23 && u8At p 13 != 2) || (p.length == 22 && u8At p 13 != 1)

/-- The departure a booking can work toward (R12), or the refusal. While the calendar is UNSET a search runs from the first
second of the span. -/
def Booking.departure (b : Booking) (clock : TimeBase) : Except Status Nat :=
  match b with
  | .oneShot d => if clock.isSet && decide (d ≤ clock.depotTime + 60) then .error .tooLate else .ok d
  | .recurring p =>
    match p.nextOccurrence (if clock.isSet then clock.depotTime else 0) with
    | some t => .ok t
    | none => .error .noOccurrence

/-- An entry of the tag stands in the way (R10): one with the same next departure, or, while the calendar is UNSET, a ONE_SHOT
entry with the booked departure of a ONE_SHOT booking. -/
def Cabinet.duplicates (c : Cabinet) (isSet : Bool) (r : BookRequest) (departure : Nat) : Bool :=
  c.book.any fun e => e.tag == r.tag && (if isSet then e.next == some departure
    else match r.booking with
      | .oneShot _ => e.booking == r.booking
      | .recurring _ => false)

/-- The entry that a BOOK creates (R1, R2). -/
def BookRequest.entry (r : BookRequest) (number : Nat) (next : Option Nat) : Entry :=
  { number := number, tag := r.tag, booking := r.booking, target := r.target, grace := r.grace, next := next, state := .booked
    bound := none, occurrenceOutlet := none, plan := none, exec := none, unreachable := false }

/-- The new entry put into the book. -/
def Cabinet.addEntry (c : Cabinet) (e : Entry) : Cabinet := { c with book := insertByNumber e c.book }

/-- The binding of a new entry (R18): to the session that holds its tag's binding, otherwise UNMATCHED sessions that carry the tag
are considered. -/
def Cabinet.bindNew (env : Env) (c : Cabinet) (number : Nat) (tag : Tag) : Cabinet :=
  match c.holderOf tag with
  | some o =>
    (c.updEntry number fun e => { e with bound := some o, occurrenceOutlet := some o }).chooseLead env o
  | none => c.retestTag env tag

/-- BOOK judged against the state (R12, R13): the refusal, or the new entry's number and next departure. -/
def State.judgeBook (s : State) (r : BookRequest) : Except Status (Nat × Option Nat) :=
  match r.booking.departure s.clock with
  | .error st => .error st
  | .ok t =>
    if s.cab.duplicates s.clock.isSet r t then .error .duplicate
    else match s.cab.lowestFree with
      | none => .error .full
      | some n => .ok (n, if s.clock.isSet then some t else none)

/-- BOOK taken (R13, R18). -/
def State.addBooking (s : State) (r : BookRequest) (number : Nat) (next : Option Nat) : State :=
  s.onCabinet fun env c => (c.addEntry (r.entry number next)).bindNew env number r.tag

/-- BOOK (R11 to R13, R187, R202). -/
def handleBook : Handler := fun p s =>
  if bookLengthOk p then
    match bookRequestIn p with
    | none => refuse .outOfRange s
    | some r =>
      (match s.judgeBook r with
      | .error st => refuse st s
      | .ok (n, next) => (s.addBooking r n next, okReply (enc8 n ++ encOptTime next)))
  else refuse .badLength s

/-- CANCEL of an entry that is held (R14): it is removed without an outcome; an active lead's grant is zeroed, and after a lead the
lead is chosen again. -/
def Cabinet.cancel (env : Env) (c : Cabinet) (e : Entry) : Cabinet :=
  let c1 := c.removeEntry e.number
  match e.bound with
  | none => c1
  | some o => if e.isLead then (if e.isActive then c1.zeroGrant env o else c1).chooseLead env o else c1

/-- A request that names an entry (R14, R16): a number outside 0..31 and one that no entry holds are refused. -/
def withEntry (p : List Byte) (s : State) (f : Entry → State × List Byte) : State × List Byte :=
  if u8At p 0 < 32 then
    match s.cab.entry? (u8At p 0) with
    | none => refuse .notFound s
    | some e => f e
  else refuse .outOfRange s

/-- CANCEL (R14). -/
def handleCancel : Handler := withLength 1 fun p s =>
  withEntry p s fun e => (s.onCabinet fun env c => c.cancel env e, okReply [])

/-- READ_BOOK (R15). -/
def handleReadBook : Handler := withLength 1 fun p s => (s, bookReply s.cab (u8At p 0))

/-- READ_ENTRY (R16, R195). -/
def handleReadEntry : Handler := withLength 1 fun p s => withEntry p s fun e => (s, entryReply e)

/-- READ_OUTLET (R194). -/
def handleReadOutlet : Handler := withLength 1 fun p s =>
  if h : u8At p 0 < 8 then (s, outletReply s.cab ⟨u8At p 0, h⟩ s.ms) else refuse .outOfRange s

/-! ## Notices -/

/-- The notice set of a request, none when it names a class outside the thirteen (R176, R201). -/
def noticeSetIn (p : List Byte) : Option NoticeSet :=
  if u16At p 0 < 8192 then some (BitVec.ofNat 13 (u16At p 0)) else none

/-- The notices of a state replaced. -/
def State.withNotices (s : State) (n : Notices) : State := { s with cab := { s.cab with notices := n } }

/-- READ_NOTICES (R175): the sets as they stand, then every pending class is marked reported. -/
def handleReadNotices : Handler := withLength 0 fun _ s =>
  (s.withNotices s.cab.notices.markReported, okReply (encNotices s.cab.notices.pending ++ encNotices s.cab.notices.enabled))

/-- ACK_NOTICES (R176). -/
def handleAckNotices : Handler := withLength 2 fun p s =>
  match noticeSetIn p with
  | none => refuse .outOfRange s
  | some set =>
    let n := s.cab.notices.acknowledge set
    (s.withNotices n, okReply (encNotices (s.cab.notices.cleared set) ++ encNotices n.pending))

/-- SET_NOTICE_ENABLE (R177). -/
def handleSetNoticeEnable : Handler := withLength 2 fun p s =>
  match noticeSetIn p with
  | none => refuse .outOfRange s
  | some set => (s.withNotices (s.cab.notices.enable set), okReply (encNotices set))

/-! ## Outcomes -/

/-- READ_OUTCOMES (R86). -/
def handleReadOutcomes : Handler := withLength 0 fun _ s => (s, outcomesReply s.cab)

/-- How many records a DROP_OUTCOMES of serial `serial` removes: the record and those older, none when no record has it (R87). -/
def Cabinet.dropCount (c : Cabinet) (serial : Serial) : Option Nat :=
  match c.outcomes.findIdx? fun r => r.serial == serial with
  | some i => some (i + 1)
  | none => none

/-- DROP_OUTCOMES (R87). -/
def handleDropOutcomes : Handler := withLength 2 fun p s =>
  match s.cab.dropCount (BitVec.ofNat 16 (u16At p 0)) with
  | none => refuse .notFound s
  | some n => ({ s with cab := { s.cab with outcomes := s.cab.outcomes.drop n } }, okReply (enc8 n))

/-! ## Shedding, quiesce, restart -/

/-- QUIESCE (R165). -/
def handleQuiesce : Handler := withLength 0 fun _ s => (s.startQuiesce, sheddingReply .ok s.startQuiesce)

/-- RESUME (R163): refused while the filtered level is asserted. -/
def handleResume : Handler := withLength 0 fun _ s =>
  if s.shed.filter.asserted then (s, sheddingReply .shedActive s) else (s.resumed, sheddingReply .ok s.resumed)

/-- RESTART (R197): the reply alone; the restart takes effect at the reply's end. -/
def handleRestart : Handler := withLength 0 fun _ s => (s, okReply [])

/-! ## The catalogue -/

/-- The processing that a TYPE calls for (R187, R200). -/
def handlerOf (ty : Byte) : Handler :=
  match ty.toNat with
  | 0x01 => handleIdentify
  | 0x02 => handleReadStatus
  | 0x03 => handleReadClock
  | 0x04 => handleSetClock
  | 0x05 => handleSetSite
  | 0x06 => handleSetAllowance
  | 0x07 => handleSetOutdoor
  | 0x08 => handleLoadProfile
  | 0x09 => handleReadProfile
  | 0x0A => handleClearProfile
  | 0x0B => handleBook
  | 0x0C => handleCancel
  | 0x0D => handleReadBook
  | 0x0E => handleReadEntry
  | 0x0F => handleReadOutlet
  | 0x10 => handleReadNotices
  | 0x11 => handleAckNotices
  | 0x12 => handleSetNoticeEnable
  | 0x13 => handleReadOutcomes
  | 0x14 => handleDropOutcomes
  | 0x15 => handleQuiesce
  | 0x16 => handleResume
  | 0x17 => handleRestart
  | _ => handleUnknown

/-- A complete request, by its TYPE (R185, R187). -/
def State.takeRequest (s : State) (r : Request) : State := s.request r (handlerOf r.ty)

end Sys2Proof.Machine
end

