-- ==== Sys2Proof/Machine/LineCommands.lean ====
section
/-!
DEFINITION. The meaning of the events of the plug-present and load-shed lines (R112 to R114, R158 to R160).
-/

namespace Sys2Proof.Machine

/-- PLUG_ASSERTED (R113, R114). -/
def execPlugAsserted (o : OutletNo) (ms : Nat) (s : State) : Host.Outcome State Fault Refusal :=
  .next (s.onMain fun s => let s1 := s.atTime ms
    s1.onCabinet fun _ c => c.plugAsserted o s1.ms)

/-- PLUG_RELEASED (R113, R130). -/
def execPlugReleased (o : OutletNo) (s : State) : Host.Outcome State Fault Refusal :=
  .next (s.onMain fun s => s.onCabinet fun env c => c.plugReleased env o)

/-- PLUG_LINE_SAMPLE (R112). -/
def execPlugLineSample (o : OutletNo) (ms : Nat) (asserted : Bool) (s : State) : Host.Outcome State Fault Refusal :=
  .next (s.onMain fun s => let s1 := s.atTime ms
    s1.onCabinet fun env c => c.plugSample env o s1.ms asserted)

/-- SHED_LINE_ASSERTED (R159, R161). -/
def execShedLineAsserted (s : State) : Host.Outcome State Fault Refusal := .next (s.onMain State.shedAsserted)

/-- SHED_LINE_DEASSERTED (R160). -/
def execShedLineDeasserted (s : State) : Host.Outcome State Fault Refusal := .next (s.onMain State.shedDeasserted)

/-- SHED_LINE_SAMPLE (R158). -/
def execShedLineSample (asserted : Bool) (s : State) : Host.Outcome State Fault Refusal :=
  .next (s.onMain fun s => s.shedSample asserted)

end Sys2Proof.Machine
end

