-- ==== Sys2Proof/Machine/OutletCommands.lean ====
section
/-!
DEFINITION. The meaning of the events of the outlet links (06).
-/

namespace Sys2Proof.Machine

/-- An event of outlet `o`'s link at the time `ms`. -/
def State.onLink (s : State) (ms : Nat) (f : Env → Cabinet → (now : Nat) → Cabinet) : State :=
  (s.atTime ms).onCabinet fun env c => f env c (s.atTime ms).ms

/-- SEND_QUEUED_RECORD (R115, R125, R132). -/
def execSendQueuedRecord (o : OutletNo) (ms : Nat) (s : State) : Host.Outcome State Fault Refusal :=
  .next (s.onMain fun s => s.onLink ms fun _ c now => c.updSession o fun x => x.sendQueued now)

/-- POLL (R115). -/
def execPoll (o : OutletNo) (ms : Nat) (s : State) : Host.Outcome State Fault Refusal :=
  .next (s.onMain fun s => s.onLink ms fun _ c now => c.updSession o fun x => x.pollIfDue now)

/-- What an outlet link carried from the vehicle, taken as its bytes judge it (R204; log 10). -/
def State.onReply (s : State) (o : OutletNo) (ms : Nat) (bytes : List Byte) : State :=
  s.onLink ms fun env c now => c.takeReply env o now bytes

/-- HELLO (R117, R119 to R121, R204). -/
def execHello (o : OutletNo) (ms : Nat) (bytes : List Byte) (s : State) : Host.Outcome State Fault Refusal :=
  .next (s.onMain fun s => s.onReply o ms bytes)

/-- REPORT (R117, R119, R124 to R128, R204). -/
def execReport (o : OutletNo) (ms : Nat) (bytes : List Byte) (s : State) : Host.Outcome State Fault Refusal :=
  .next (s.onMain fun s => s.onReply o ms bytes)

/-- BYE (R117, R129, R204). -/
def execBye (o : OutletNo) (ms : Nat) (bytes : List Byte) (s : State) : Host.Outcome State Fault Refusal :=
  .next (s.onMain fun s => s.onReply o ms bytes)

/-- OTHER_KIND_REPLY (R117, R118, R204). -/
def execOtherKindReply (o : OutletNo) (ms : Nat) (bytes : List Byte) (s : State) : Host.Outcome State Fault Refusal :=
  .next (s.onMain fun s => s.onReply o ms bytes)

/-- BAD_CRC_REPLY (R116, R118, R204). -/
def execBadCrcReply (o : OutletNo) (ms : Nat) (bytes : List Byte) (s : State) : Host.Outcome State Fault Refusal :=
  .next (s.onMain fun s => s.onReply o ms bytes)

/-- REPLY_TIMEOUT (R116, R118). -/
def execReplyTimeout (o : OutletNo) (ms : Nat) (s : State) : Host.Outcome State Fault Refusal :=
  .next (s.onMain fun s => s.onLink ms fun env c now => c.missExchange env o now)

/-- FRAME_WHILE_IDLE (R116): what arrives on outlet `o` outside an exchange is discarded. -/
def execFrameWhileIdle (_o : OutletNo) (ms : Nat) (s : State) : Host.Outcome State Fault Refusal :=
  .next (s.onMain fun s => s.atTime ms)

end Sys2Proof.Machine
end

