-- ==== Sys2Proof/Machine/RequestCommands.lean ====
section
/-!
DEFINITION. The meaning of each request command: a complete request handed to the port, which processes it at once when it is free (R185,
R187; log 3).
-/

namespace Sys2Proof.Machine

/-- UNKNOWN_TYPE (R187): answered UNKNOWN_TYPE. A TYPE of the catalogue is processed as the request it names (log 25). -/
def execUnknownType (ty : Byte) (payload : List Byte) (s : State) : Host.Outcome State Fault Refusal :=
  .next (s.onMain fun s => s.request { ty := ty, payload := payload } (handlerOf ty))

/-- IDENTIFY (R192). -/
def execIdentify (payload : List Byte) (s : State) : Host.Outcome State Fault Refusal :=
  .next (s.onMain fun s => s.request { ty := 0x01, payload := payload } handleIdentify)

/-- READ_STATUS (R193). -/
def execReadStatus (payload : List Byte) (s : State) : Host.Outcome State Fault Refusal :=
  .next (s.onMain fun s => s.request { ty := 0x02, payload := payload } handleReadStatus)

/-- READ_CLOCK (R153). -/
def execReadClock (payload : List Byte) (s : State) : Host.Outcome State Fault Refusal :=
  .next (s.onMain fun s => s.request { ty := 0x03, payload := payload } handleReadClock)

/-- SET_CLOCK (R150 to R152). -/
def execSetClock (payload : List Byte) (s : State) : Host.Outcome State Fault Refusal :=
  .next (s.onMain fun s => s.request { ty := 0x04, payload := payload } handleSetClock)

/-- SET_SITE (R46, R91). -/
def execSetSite (payload : List Byte) (s : State) : Host.Outcome State Fault Refusal :=
  .next (s.onMain fun s => s.request { ty := 0x05, payload := payload } handleSetSite)

/-- SET_ALLOWANCE (R90). -/
def execSetAllowance (payload : List Byte) (s : State) : Host.Outcome State Fault Refusal :=
  .next (s.onMain fun s => s.request { ty := 0x06, payload := payload } handleSetAllowance)

/-- SET_OUTDOOR (R42). -/
def execSetOutdoor (payload : List Byte) (s : State) : Host.Outcome State Fault Refusal :=
  .next (s.onMain fun s => s.request { ty := 0x07, payload := payload } handleSetOutdoor)

/-- LOAD_PROFILE (R31 to R34). -/
def execLoadProfile (payload : List Byte) (s : State) : Host.Outcome State Fault Refusal :=
  .next (s.onMain fun s => s.request { ty := 0x08, payload := payload } handleLoadProfile)

/-- READ_PROFILE (R36). -/
def execReadProfile (payload : List Byte) (s : State) : Host.Outcome State Fault Refusal :=
  .next (s.onMain fun s => s.request { ty := 0x09, payload := payload } handleReadProfile)

/-- CLEAR_PROFILE (R35). -/
def execClearProfile (payload : List Byte) (s : State) : Host.Outcome State Fault Refusal :=
  .next (s.onMain fun s => s.request { ty := 0x0A, payload := payload } handleClearProfile)

/-- BOOK (R11 to R13, R18). -/
def execBook (payload : List Byte) (s : State) : Host.Outcome State Fault Refusal :=
  .next (s.onMain fun s => s.request { ty := 0x0B, payload := payload } handleBook)

/-- CANCEL (R14). -/
def execCancel (payload : List Byte) (s : State) : Host.Outcome State Fault Refusal :=
  .next (s.onMain fun s => s.request { ty := 0x0C, payload := payload } handleCancel)

/-- READ_BOOK (R15). -/
def execReadBook (payload : List Byte) (s : State) : Host.Outcome State Fault Refusal :=
  .next (s.onMain fun s => s.request { ty := 0x0D, payload := payload } handleReadBook)

/-- READ_ENTRY (R16, R195). -/
def execReadEntry (payload : List Byte) (s : State) : Host.Outcome State Fault Refusal :=
  .next (s.onMain fun s => s.request { ty := 0x0E, payload := payload } handleReadEntry)

/-- READ_OUTLET (R194), at the time `ms`, from which it tells how long ago the last report was received. -/
def execReadOutlet (ms : Nat) (payload : List Byte) (s : State) : Host.Outcome State Fault Refusal :=
  .next (s.onMain fun s => (s.atTime ms).request { ty := 0x0F, payload := payload } handleReadOutlet)

/-- READ_NOTICES (R175). -/
def execReadNotices (payload : List Byte) (s : State) : Host.Outcome State Fault Refusal :=
  .next (s.onMain fun s => s.request { ty := 0x10, payload := payload } handleReadNotices)

/-- ACK_NOTICES (R176). -/
def execAckNotices (payload : List Byte) (s : State) : Host.Outcome State Fault Refusal :=
  .next (s.onMain fun s => s.request { ty := 0x11, payload := payload } handleAckNotices)

/-- SET_NOTICE_ENABLE (R177). -/
def execSetNoticeEnable (payload : List Byte) (s : State) : Host.Outcome State Fault Refusal :=
  .next (s.onMain fun s => s.request { ty := 0x12, payload := payload } handleSetNoticeEnable)

/-- READ_OUTCOMES (R86). -/
def execReadOutcomes (payload : List Byte) (s : State) : Host.Outcome State Fault Refusal :=
  .next (s.onMain fun s => s.request { ty := 0x13, payload := payload } handleReadOutcomes)

/-- DROP_OUTCOMES (R87). -/
def execDropOutcomes (payload : List Byte) (s : State) : Host.Outcome State Fault Refusal :=
  .next (s.onMain fun s => s.request { ty := 0x14, payload := payload } handleDropOutcomes)

/-- QUIESCE (R165). -/
def execQuiesce (payload : List Byte) (s : State) : Host.Outcome State Fault Refusal :=
  .next (s.onMain fun s => s.request { ty := 0x15, payload := payload } handleQuiesce)

/-- RESUME (R163). -/
def execResume (payload : List Byte) (s : State) : Host.Outcome State Fault Refusal :=
  .next (s.onMain fun s => s.request { ty := 0x16, payload := payload } handleResume)

/-- RESTART (R197). -/
def execRestart (payload : List Byte) (s : State) : Host.Outcome State Fault Refusal :=
  .next (s.onMain fun s => s.request { ty := 0x17, payload := payload } handleRestart)

end Sys2Proof.Machine
end

