-- ==== Sys2Proof/Machine/SiteLink.lean ====
section
/-!
DEFINITION. The meaning of each event of the site link (10, sections 10.1 and 10.2).
-/

namespace Sys2Proof.Machine

/-- The port of a state changed. -/
def State.onPort (s : State) (f : Port → Port) : State := { s with port := f s.port }

/-- A byte received at the time `ms` (R182 to R185): one that comes after the gap finds its frame abandoned, the next gap is timed from
it, and the request that it completes is taken at once. -/
def State.receiveByte (s : State) (b : Byte) (ms : Nat) : State :=
  let s1 := s.atTime ms
  let heard := { s1.port.beforeByte s1.ms with lastByteAt := s1.ms }.receive b
  match heard.2 with
  | none => { s1 with port := heard.1 }
  | some r => { s1 with port := heard.1 }.takeRequest r

/-- The expiry of the gap at the time `ms` (R183). One that a byte has come before times no gap any more, and the byte continues the
frame (R190). -/
def State.gapExpired (s : State) (ms : Nat) : State :=
  let s1 := s.atTime ms
  if s1.port.lastByteAt + Config.frameGap ≤ s1.ms then s1.onPort Port.breakFrame else s1

/-- What the end of the current request's reply brings about (R189): the port becomes free; after a RESTART the restart takes effect
(R197); the held request is then taken and processed at once (R198). -/
def State.endAnswer (s : State) : State :=
  let restarting := match s.port.current with
    | some cur => cur.request.isRestart
    | none => false
  let s1 := if restarting then s.restart else s
  let s2 := s1.onPort Port.endAnswer
  match s.port.held with
  | none => s2
  | some r => s2.takeRequest r

/-- The transmitter finishes sending a frame and begins the oldest one waiting (R188). At the end of a reply the answer ends (R189). -/
def State.frameSent (s : State) : State :=
  match s.port.sending with
  | none => s
  | some f => if f.isReply then (s.onPort Port.nextFrame).endAnswer else s.onPort Port.nextFrame

/-- SITE_BYTE_RECEIVED (R182 to R185). -/
def execSiteByteReceived (b : Byte) (ms : Nat) (s : State) : Host.Outcome State Fault Refusal :=
  .next (s.onMain fun s => s.receiveByte b ms)

/-- FRAMING_ERROR (R183). -/
def execFramingError (s : State) : Host.Outcome State Fault Refusal :=
  .next (s.onMain fun s => s.onPort Port.breakFrame)

/-- FRAME_GAP_EXPIRY (R183, R190). -/
def execFrameGapExpiry (ms : Nat) (s : State) : Host.Outcome State Fault Refusal :=
  .next (s.onMain fun s => s.gapExpired ms)

/-- FRAME_SENT (R188, R189, R197). -/
def execFrameSent (ms : Nat) (s : State) : Host.Outcome State Fault Refusal :=
  .next (s.onMain fun s => (s.atTime ms).frameSent)

/-- REPLY_FORMED (R187, R188): the current request passes from PROCESSING to REPLYING. -/
def execReplyFormed (s : State) : Host.Outcome State Fault Refusal :=
  .next (s.onMain fun s => s.onPort Port.formReply)

end Sys2Proof.Machine
end

