-- ==== Sys2Proof/Machine/TimeCommands.lean ====
section
/-!
DEFINITION. The meaning of the resets, the losses of supply, and the events of time.
-/

namespace Sys2Proof.Machine

/-- MAIN_RESET (R28, R39, R64, R89, R110, R137, R157, R170, R179, R199). -/
def execMainReset (s : State) : Host.Outcome State Fault Refusal := .next s.mainReset

/-- MAIN_POWER_LOSS (R155). -/
def execMainPowerLoss (s : State) : Host.Outcome State Fault Refusal := .next s.losePower

/-- BACKUP_LOSS (R156). -/
def execBackupLoss (s : State) : Host.Outcome State Fault Refusal := .next s.loseBackup

/-- SOURCE_SECOND (R141, R142, R138, R144, R149, R155). -/
def execSourceSecond (order : SecondOrder) (s : State) : Host.Outcome State Fault Refusal := .next (s.sourceSecond order)

/-- WINDOW_END (R145 to R148). -/
def execWindowEnd (edges : Nat) (recovered : List SecondOrder) (s : State) : Host.Outcome State Fault Refusal :=
  .next (s.endWindow edges recovered)

/-- OUTDOOR_AGED (R43). -/
def execOutdoorAged (s : State) : Host.Outcome State Fault Refusal := .next (s.onMain State.takeOutdoorAged)

/-- GRANT_BOUNDARY (R92 to R97, R101 to R104). -/
def execGrantBoundary (s : State) : Host.Outcome State Fault Refusal := .next (s.onMain State.takeBoundary)

/-- LEASE_EXPIRY (R107, R103, R166). -/
def execLeaseExpiry (o : OutletNo) (s : State) : Host.Outcome State Fault Refusal :=
  .next (s.onMain fun s => s.onCabinet fun env c => c.takeLeaseExpiry env o)

/-- RESIDUAL_LEASE_EXPIRY (R166, R169). -/
def execResidualLeaseExpiry (o : OutletNo) (s : State) : Host.Outcome State Fault Refusal :=
  .next (s.onMain fun s => s.onCabinet fun _ c => c.takeResidualExpiry o)

end Sys2Proof.Machine
end

