-- ==== Sys2Proof/Machine/Dispatch.lean ====
section
/-!
DEFINITION. The meaning of every command, one arm for each constructor of Instr.
-/

namespace Sys2Proof.Machine

def exec (i : Instr) (s : State) : Host.Outcome State Fault Refusal :=
  match i with
  | .siteByteReceived b ms => Sys2Proof.Machine.execSiteByteReceived b ms s
  | .framingError => Sys2Proof.Machine.execFramingError s
  | .frameGapExpiry ms => Sys2Proof.Machine.execFrameGapExpiry ms s
  | .frameSent ms => Sys2Proof.Machine.execFrameSent ms s
  | .unknownType ty payload => Sys2Proof.Machine.execUnknownType ty payload s
  | .identify payload => Sys2Proof.Machine.execIdentify payload s
  | .readStatus payload => Sys2Proof.Machine.execReadStatus payload s
  | .readClock payload => Sys2Proof.Machine.execReadClock payload s
  | .setClock payload => Sys2Proof.Machine.execSetClock payload s
  | .setSite payload => Sys2Proof.Machine.execSetSite payload s
  | .setAllowance payload => Sys2Proof.Machine.execSetAllowance payload s
  | .setOutdoor payload => Sys2Proof.Machine.execSetOutdoor payload s
  | .loadProfile payload => Sys2Proof.Machine.execLoadProfile payload s
  | .readProfile payload => Sys2Proof.Machine.execReadProfile payload s
  | .clearProfile payload => Sys2Proof.Machine.execClearProfile payload s
  | .book payload => Sys2Proof.Machine.execBook payload s
  | .cancel payload => Sys2Proof.Machine.execCancel payload s
  | .readBook payload => Sys2Proof.Machine.execReadBook payload s
  | .readEntry payload => Sys2Proof.Machine.execReadEntry payload s
  | .readOutlet ms payload => Sys2Proof.Machine.execReadOutlet ms payload s
  | .readNotices payload => Sys2Proof.Machine.execReadNotices payload s
  | .ackNotices payload => Sys2Proof.Machine.execAckNotices payload s
  | .setNoticeEnable payload => Sys2Proof.Machine.execSetNoticeEnable payload s
  | .readOutcomes payload => Sys2Proof.Machine.execReadOutcomes payload s
  | .dropOutcomes payload => Sys2Proof.Machine.execDropOutcomes payload s
  | .quiesce payload => Sys2Proof.Machine.execQuiesce payload s
  | .resume payload => Sys2Proof.Machine.execResume payload s
  | .restart payload => Sys2Proof.Machine.execRestart payload s
  | .mainReset => Sys2Proof.Machine.execMainReset s
  | .mainPowerLoss => Sys2Proof.Machine.execMainPowerLoss s
  | .backupLoss => Sys2Proof.Machine.execBackupLoss s
  | .sourceSecond order => Sys2Proof.Machine.execSourceSecond order s
  | .windowEnd edges recovered => Sys2Proof.Machine.execWindowEnd edges recovered s
  | .outdoorAged => Sys2Proof.Machine.execOutdoorAged s
  | .grantBoundary => Sys2Proof.Machine.execGrantBoundary s
  | .leaseExpiry o => Sys2Proof.Machine.execLeaseExpiry o s
  | .residualLeaseExpiry o => Sys2Proof.Machine.execResidualLeaseExpiry o s
  | .plugAsserted o ms => Sys2Proof.Machine.execPlugAsserted o ms s
  | .plugReleased o => Sys2Proof.Machine.execPlugReleased o s
  | .shedLineAsserted => Sys2Proof.Machine.execShedLineAsserted s
  | .shedLineDeasserted => Sys2Proof.Machine.execShedLineDeasserted s
  | .sendQueuedRecord o ms => Sys2Proof.Machine.execSendQueuedRecord o ms s
  | .poll o ms => Sys2Proof.Machine.execPoll o ms s
  | .hello o ms bytes => Sys2Proof.Machine.execHello o ms bytes s
  | .report o ms bytes => Sys2Proof.Machine.execReport o ms bytes s
  | .bye o ms bytes => Sys2Proof.Machine.execBye o ms bytes s
  | .otherKindReply o ms bytes => Sys2Proof.Machine.execOtherKindReply o ms bytes s
  | .badCrcReply o ms bytes => Sys2Proof.Machine.execBadCrcReply o ms bytes s
  | .replyTimeout o ms => Sys2Proof.Machine.execReplyTimeout o ms s
  | .frameWhileIdle o ms => Sys2Proof.Machine.execFrameWhileIdle o ms s
  | .replyFormed => Sys2Proof.Machine.execReplyFormed s
  | .plugLineSample o ms asserted => Sys2Proof.Machine.execPlugLineSample o ms asserted s
  | .shedLineSample asserted => Sys2Proof.Machine.execShedLineSample asserted s
end Sys2Proof.Machine
end

