-- ==== Sys2Proof/WellFormed.lean ====
section
/-!
DEFINITION. Which commands are well formed: those whose operands the links can carry and whose bytes are of the kind they name.
-/

namespace Sys2Proof

/-- The longest payload of a site-link frame: LEN is at most 250 and counts the TYPE byte (R182). -/
def maxRequestPayload : Nat := 249

/-- The payload of a request fits in a frame (R182). -/
def requestPayloadOk (payload : List Byte) : Bool := payload.length ≤ maxRequestPayload

/-- The TYPE is outside the catalogue of requests, 0x01..0x17 (R200). -/
def typeOutsideCatalogue (ty : Byte) : Bool := ty.toNat = 0 || 0x17 < ty.toNat

/-- The bytes make a complete frame whose kind and payload are as `ok` says (R204). -/
def heardIs (bytes : List Byte) (ok : Byte → List Byte → Bool) : Bool :=
  match Machine.heardFrame bytes with
  | .frame kind payload => ok kind payload
  | .bad => false
  | .incomplete => false

/-- A command that the links can carry, and whose bytes are of the kind that it names (R204, R205). -/
def Instr.wellFormed : Instr → Bool
  | .unknownType ty payload => typeOutsideCatalogue ty && requestPayloadOk payload
  | .identify p | .readStatus p | .readClock p | .setClock p | .setSite p | .setAllowance p | .setOutdoor p
  | .loadProfile p | .readProfile p | .clearProfile p | .book p | .cancel p | .readBook p | .readEntry p
  | .readOutlet _ p | .readNotices p | .ackNotices p | .setNoticeEnable p | .readOutcomes p | .dropOutcomes p
  | .quiesce p | .resume p | .restart p => requestPayloadOk p
  | .hello _ _ bytes => heardIs bytes fun kind _ => kind == Machine.kindHello
  | .report _ _ bytes => heardIs bytes fun kind p => kind == Machine.kindReport && p.length == 7
  | .bye _ _ bytes => heardIs bytes fun kind p => kind == Machine.kindBye && p.isEmpty
  | .otherKindReply _ _ bytes => heardIs bytes fun _ _ => true
  | .badCrcReply _ _ bytes => Machine.heardFrame bytes == .bad
  | .windowEnd _ recovered => recovered.length ≤ 2
  | .siteByteReceived _ _ | .framingError | .frameGapExpiry _ | .frameSent _ | .mainReset | .mainPowerLoss | .backupLoss
  | .sourceSecond _ | .outdoorAged | .grantBoundary | .leaseExpiry _ | .residualLeaseExpiry _ | .plugAsserted _ _
  | .plugReleased _ | .shedLineAsserted | .shedLineDeasserted | .sendQueuedRecord _ _ | .poll _ _
  | .replyTimeout _ _ | .frameWhileIdle _ _ | .replyFormed
  | .plugLineSample _ _ _ | .shedLineSample _ => true

end Sys2Proof
end

