-- ==== Sys2Proof/Safety.lean ====
section
/-!
DEFINITION. What it is for the part to be in order: the laws its state keeps between one command and the next, and the words in which
the claims speak of requests, of an entry's events and of its outcome.
-/

namespace Sys2Proof.Machine

/-! ## Requests -/

/-- The port is free and supplied: a request that arrives is processed at once (R185). -/
def State.portFree (s : State) : Prop := s.supply = .main ∧ s.port.current = none

/-- The state after the request of TYPE `ty` with `payload` has been processed and its reply's payload formed, nothing else having
changed in the port (R187). -/
def State.answered (s : State) (ty : Byte) (payload reply : List Byte) : State :=
  { s with port := { s.port with
      current := some { request := { ty := ty, payload := payload }, phase := .processed reply } } }

/-- The request that a request command hands to the port: the TYPE of its row (R200) and the payload; none for an event. -/
def requestOf (c : Instr) : Option Request :=
  match c with
  | .unknownType ty p => some { ty := ty, payload := p }
  | .identify p => some { ty := 0x01, payload := p }
  | .readStatus p => some { ty := 0x02, payload := p }
  | .readClock p => some { ty := 0x03, payload := p }
  | .setClock p => some { ty := 0x04, payload := p }
  | .setSite p => some { ty := 0x05, payload := p }
  | .setAllowance p => some { ty := 0x06, payload := p }
  | .setOutdoor p => some { ty := 0x07, payload := p }
  | .loadProfile p => some { ty := 0x08, payload := p }
  | .readProfile p => some { ty := 0x09, payload := p }
  | .clearProfile p => some { ty := 0x0A, payload := p }
  | .book p => some { ty := 0x0B, payload := p }
  | .cancel p => some { ty := 0x0C, payload := p }
  | .readBook p => some { ty := 0x0D, payload := p }
  | .readEntry p => some { ty := 0x0E, payload := p }
  | .readOutlet _ p => some { ty := 0x0F, payload := p }
  | .readNotices p => some { ty := 0x10, payload := p }
  | .ackNotices p => some { ty := 0x11, payload := p }
  | .setNoticeEnable p => some { ty := 0x12, payload := p }
  | .readOutcomes p => some { ty := 0x13, payload := p }
  | .dropOutcomes p => some { ty := 0x14, payload := p }
  | .quiesce p => some { ty := 0x15, payload := p }
  | .resume p => some { ty := 0x16, payload := p }
  | .restart p => some { ty := 0x17, payload := p }
  | .siteByteReceived _ _ | .framingError | .frameGapExpiry _ | .frameSent _ | .mainReset | .mainPowerLoss | .backupLoss
  | .sourceSecond _ | .windowEnd _ _ | .outdoorAged | .grantBoundary | .leaseExpiry _ | .residualLeaseExpiry _
  | .plugAsserted _ _ | .plugReleased _ | .shedLineAsserted | .shedLineDeasserted | .sendQueuedRecord _ _ | .poll _ _
  | .hello _ _ _ | .report _ _ _ | .bye _ _ _ | .otherKindReply _ _ _ | .badCrcReply _ _ _ | .replyTimeout _ _
  | .frameWhileIdle _ _ | .replyFormed | .plugLineSample _ _ _ | .shedLineSample _ => none

/-- The time that a request command names: READ_OUTLET alone names one (log 8). -/
def requestTime (c : Instr) : Nat :=
  match c with
  | .readOutlet ms _ => ms
  | _ => 0

/-- The state when the request of a request command arrives. -/
def State.atRequest (s : State) (c : Instr) : State := s.atTime (requestTime c)

/-- A session but for its outbound queue. -/
def Session.butQueue (x : Session) : Session := { x with queue := [] }

/-- A good reply finds the session IDENTIFIED: it is, or it is STALE and came from there (R119). -/
def Session.repliesIdentified (x : Session) : Prop := x.state = .identified ∨ (x.state = .stale ∧ x.cameFrom = some .identified)

/-- The record that a REPORT leaves acknowledged (R125): the one it names, when the sent list holds it, or the one of before. -/
def Session.ackedAfter (x : Session) (payload : List Byte) : Option Acknowledged :=
  if u8At payload 4 = 1 then
    match x.sent.find? fun r => r.seq == BitVec.ofNat 16 (u16At payload 5) with
    | some r => some { seq := r.seq, watts := r.watts }
    | none => x.acked
  else x.acked

/-- The limit by which the draw of a REPORT is judged (R127). -/
def Session.limitAfter (x : Session) (payload : List Byte) : Nat :=
  (match x.ackedAfter payload with
  | some a => a.watts * 110 / 100
  | none => 0) + 200

/-- A frame that is a good reply in IDENTIFIED, UNMATCHED and STALE (R117, R204). -/
def goodReply (kind : Byte) (payload : List Byte) : Prop :=
  kind = 0x20 ∨ (kind = 0x21 ∧ payload.length = 7) ∨ (kind = 0x22 ∧ payload = [])

/-- No expiry is due: the main supply is present, and leases, residual leases, the outdoor age and the interval timer leave nothing to be
taken (log 6). -/
def State.nothingDue (s : State) : Prop :=
  s.supply = .main ∧ (∀ o, (s.cab.session o).leaseDue = .none ∧ (s.cab.outlet o).residualDue = false)
    ∧ s.arbiter.boundaryDue = false ∧ ¬(s.planner.outdoorState = .fresh ∧ 900 < s.planner.outdoorAge)

/-- What a stop release does to the outlets between `s` and `t` (R161): every deferred raise is gone; each IDENTIFIED or STALE session
has a live STOP in its queue with the outlet's next number and the lease of R106, behind which no GRANT is live, a GRANT or STOP in flight
has become stale (R134), and its released grant is zero; the other outlets, every reduction mark and everything else of the sessions stand. -/
def StopReleased (s t : State) : Prop :=
  ∀ o,
    (t.cab.session o).butQueue = (s.cab.session o).butQueue
      ∧ (t.cab.outlet o).plug = (s.cab.outlet o).plug ∧ (t.cab.outlet o).residual = (s.cab.outlet o).residual
      ∧ ((s.cab.session o).takesGrants = true →
        (t.cab.outlet o).grants =
          { released := 0, lastSeq := (s.cab.outlet o).grants.nextSeq, nextSeq := (s.cab.outlet o).grants.nextSeq + 1
            deferred := none, mark := (s.cab.outlet o).grants.mark }
        ∧ (∃ before r behind, (t.cab.session o).queue = before ++ r :: behind ∧ r.stale = false
          ∧ r.body = .stop (s.cab.outlet o).grants.nextSeq (2 * s.arbiter.activeInterval + 5)
          ∧ ∀ g ∈ behind, ∀ seq watts lease, g.body = .grant seq watts lease → g.stale = true)
        ∧ ∀ h, (s.cab.session o).headInFlight = true → (s.cab.session o).queue.head? = some h →
          (t.cab.session o).queue.head? = some { h with stale := h.stale || h.isGrant || h.isStop })
      ∧ ((s.cab.session o).takesGrants = false →
        (t.cab.outlet o).grants = { (s.cab.outlet o).grants with deferred := none } ∧ t.cab.session o = s.cab.session o)

/-- Between `s` and `t` the session of outlet `o` has ended (R130): nothing of it is left in the grants but the sequence numbers, and no
entry is bound to the outlet. -/
def GrantsEnded (s t : State) (o : OutletNo) : Prop :=
  (t.cab.outlet o).grants = { (s.cab.outlet o).grants with released := 0, deferred := none, mark := none }
    ∧ ∀ e ∈ t.cab.book, e.bound ≠ some o

/-! ## The laws -/

/-- The attention line is asserted exactly when some class is both pending and enabled (R174). -/
def AttentionLaw (s : State) : Prop :=
  s.cab.notices.attention = true ↔ ∃ k, k < 13 ∧ s.cab.notices.pending.getLsbD k = true ∧ s.cab.notices.enabled.getLsbD k = true

/-- The shed latch is set whenever the filtered level is asserted (R160); a filter's run holds at most two samples (R158). -/
def ShedLaw (s : State) : Prop := (s.shed.filter.asserted = true → s.shed.latch = true) ∧ s.shed.filter.run ≤ 2

/-- The book holds at most 32 entries, with distinct numbers in 0..31, kept in number order (R2, R10; log 30). -/
def BookLaw (s : State) : Prop :=
  (s.cab.book.map Entry.number).Pairwise (· < ·) ∧ (∀ e ∈ s.cab.book, e.number < 32) ∧ s.cab.book.length ≤ 32

/-- What an entry's next departure is, by the calendar's state and the entry's kind (R5, R20, R27). -/
def NextLaw (s : State) : Prop :=
  ∀ e ∈ s.cab.book,
    if s.clock.isSet then
      match e.booking with
      | .oneShot d => e.next = some d
      | .recurring _ => e.next ≠ none
    else e.next = none

/-- No two entries have the same tag and the same next departure, nor, of the same tag, the same booked departure (R10). -/
def DistinctLaw (s : State) : Prop :=
  ∀ e ∈ s.cab.book, ∀ f ∈ s.cab.book, e.tag = f.tag →
    (e.next ≠ none ∧ e.next = f.next) ∨ (∃ d, e.booking = .oneShot d ∧ f.booking = .oneShot d) → e.number = f.number

/-- The outcome list holds at most 16 records, each with the serial after that of the record before it, the newest just before the
next serial (R84, R85). -/
def OutcomeLaw (s : State) : Prop :=
  s.cab.outcomes.length ≤ 16 ∧
    ∀ i r, s.cab.outcomes[i]? = some r → r.serial + BitVec.ofNat 16 (s.cab.outcomes.length - i) = s.cab.nextSerial

/-- An outbound queue holds at most 4 records, of which at most one is live of each kind; only a queue with a head has it in flight;
a sent list holds at most 4 (R125, R132, R135). -/
def Session.QueueLaw (x : Session) : Prop :=
  x.queue.length ≤ 4 ∧ x.queue.countP QueueRecord.liveWelcome ≤ 1 ∧ x.queue.countP QueueRecord.liveGrant ≤ 1
    ∧ x.queue.countP QueueRecord.liveStop ≤ 1 ∧ (x.headInFlight = true → x.queue ≠ []) ∧ x.sent.length ≤ 4

/-- Every outlet's queue is in order. -/
def QueueLaw (s : State) : Prop := ∀ o, (s.cab.session o).QueueLaw

/-- The calendar lies in its span and is UNSET at its end; u saturates; the pass count is at most 4 (R140, R144, R145, R149). -/
def ClockLaw (s : State) : Prop :=
  s.clock.depotTime ≤ Config.lastDepotTime ∧ (s.clock.isSet = true → s.clock.depotTime < Config.lastDepotTime)
    ∧ s.clock.u ≤ Config.max32 ∧ s.clock.passCount ≤ 4

/-- The settings lie in their ranges, and the interval timer counts 1 to 60 seconds (R42, R43, R46, R90 to R92, R193). -/
def SettingsLaw (s : State) : Prop :=
  s.arbiter.pendingAllowance ≤ 250000 ∧ s.arbiter.activeAllowance ≤ 250000
    ∧ 5 ≤ s.arbiter.pendingInterval ∧ s.arbiter.pendingInterval ≤ 60
    ∧ 5 ≤ s.arbiter.activeInterval ∧ s.arbiter.activeInterval ≤ 60
    ∧ 1 ≤ s.arbiter.secondsLeft ∧ s.arbiter.secondsLeft ≤ s.arbiter.activeInterval
    ∧ s.planner.baseMargin ≤ 900 ∧ s.planner.outdoorAge ≤ 65535
    ∧ (∀ t, s.planner.outdoor = some t → -500 ≤ t ∧ t ≤ 600)
    ∧ (s.planner.outdoorState = .unknown ↔ s.planner.outdoor = none)

/-- The replies of current requests among the frames formed and not yet sent to the end. -/
def Port.replies (p : Port) : Nat := (p.sending.toList ++ p.outbox).countP OutFrame.isReply

/-- The current request is being answered with a reply already formed. -/
def Port.isReplying (p : Port) : Bool :=
  match p.current with
  | some cur => cur.phase == .replying
  | none => false

/-- The port is in order (R182 to R189): a request is held only behind a current one; an IDLE transmitter leaves no frame waiting; the
reply of a REPLYING request, and no other, is formed and not yet sent; at most four BUSY answers wait; the receiver has not counted
past the frame's end. -/
def PortLaw (s : State) : Prop :=
  (s.port.current = none → s.port.held = none) ∧ (s.port.sending = none → s.port.outbox = [])
    ∧ s.port.replies = (if s.port.isReplying then 1 else 0)
    ∧ s.port.waiting.length ≤ 4 ∧ s.port.discards ≤ 65535
    ∧ (match s.port.receiver with
      | .hunt => True
      | .length => True
      | .body len bytes => bytes.length < len.toNat ∧ len.toNat ≤ 250
      | .check len bytes _ => bytes.length = len.toNat ∧ 1 ≤ len.toNat ∧ len.toNat ≤ 250)

/-- What an outlet may come to be granted before the next boundary: its released grant, or the deferred raise above it. -/
def Outlet.ceiling (out : Outlet) : Nat := max out.grants.released (out.grants.deferred.getD 0)

/-- The allowance is kept (R98): the released grants, and those the deferred raises would make of them, sum to at most the active
allowance; only an outlet whose session holds a binding has one; and while power is stopped every grant is zero. -/
def AllowanceLaw (s : State) : Prop :=
  (outletNumbers.map fun o => (s.cab.outlet o).ceiling).sum ≤ s.arbiter.activeAllowance
    ∧ (∀ o, (s.cab.session o).holdsBinding = false → (s.cab.outlet o).ceiling = 0)
    ∧ (s.powerStopped = true → ∀ o, (s.cab.outlet o).ceiling = 0)

/-- Binding is in order (R17): no two sessions hold the binding of one tag, and the entries of a tag are bound to an outlet exactly
when the session there holds the tag's binding. -/
def BindingLaw (s : State) : Prop :=
  (∀ o o' tag, (s.cab.session o).holdsBinding = true → (s.cab.session o).tag = some tag →
      (s.cab.session o').holdsBinding = true → (s.cab.session o').tag = some tag → o = o')
    ∧ ∀ e ∈ s.cab.book, ∀ o, e.bound = some o ↔
      ((s.cab.session o).holdsBinding = true ∧ (s.cab.session o).tag = some e.tag)

/-- Leads are in order (R3, R20): a lead is bound, planned and has a next departure; a BOOKED entry has no plan; an outlet has at most
one lead; while the calendar is UNSET there is none. -/
def LeadLaw (s : State) : Prop :=
  (∀ e ∈ s.cab.book, e.isLead = true → e.bound ≠ none ∧ e.plan ≠ none ∧ e.next ≠ none)
    ∧ (∀ e ∈ s.cab.book, e.state = .booked → e.plan = none)
    ∧ (∀ e ∈ s.cab.book, ∀ f ∈ s.cab.book, e.isLead = true → f.isLead = true → e.bound = f.bound → e.number = f.number)
    ∧ (s.clock.isSet = false → ∀ e ∈ s.cab.book, e.state = .booked)

/-- The lead is the earliest (R20): while the calendar is set, an outlet with a bound entry has a lead, and no bound entry departs before
it. -/
def EarliestLaw (s : State) : Prop :=
  s.clock.isSet = true → ∀ e ∈ s.cab.book, ∀ o, e.bound = some o →
    ∃ lead d, s.cab.leadOf o = some lead ∧ lead.next = some d ∧ ∀ t, e.next = some t → d ≤ t

/-- A slot is loaded while it is in use (R33), and what it holds is in range (R31, R32). -/
def ProfileLaw (s : State) : Prop :=
  (∀ o, (s.cab.session o).holdsBinding = true → ∃ p r, (s.cab.session o).profile = some p ∧ s.profiles.get p = some r)
    ∧ ∀ p r, s.profiles.get p = some r → r.scalarsOk = true ∧ r.tableOk = true

/-- Without the main supply the main domain holds what a main reset gives it, so that nothing of it is left (R155; log 13). -/
def SupplyLaw (s : State) : Prop := s.supply ≠ .main → s.mainCleared = s

/-- The laws on which those of the book's leads and departures rest, all together. -/
def DepartureLaws (s : State) : Prop :=
  SupplyLaw s ∧ BookLaw s ∧ NextLaw s ∧ DistinctLaw s ∧ BindingLaw s ∧ LeadLaw s ∧ EarliestLaw s ∧ ProfileLaw s

/-! ## Ends and departures -/

/-- A departure or a grace expiry of the entry falls after `t0` up to and including `t1` (R24, R73, R77). -/
def Entry.DueIn (e : Entry) (t0 t1 : Nat) : Prop :=
  ∃ d, e.next = some d ∧ ((t0 < d ∧ d ≤ t1) ∨ (t0 < d + e.grace * 60 ∧ d + e.grace * 60 ≤ t1))

/-- Of the entries but `e`, none has a departure or a grace expiry after `t0` up to and including `t1`. -/
def Cabinet.NoOtherDue (c : Cabinet) (e : Entry) (t0 t1 : Nat) : Prop := ∀ f ∈ c.book, f.number ≠ e.number → ¬ f.DueIn t0 t1

/-- The entry's end is the only one of its second: `d` is the second that comes, the calendar runs on after it, and no other entry has a
departure or a grace expiry at it (R73). -/
def State.SecondOf (s : State) (e : Entry) (d : Nat) : Prop :=
  s.nothingDue ∧ s.clock.isSet = true ∧ s.clock.depotTime + 1 = d ∧ d < 3155759999 ∧ BookLaw s ∧ LeadLaw s ∧ e ∈ s.cab.book
    ∧ s.cab.NoOtherDue e s.clock.depotTime d

/-- An entry after a calendar second: one that is WARMING has spent one more second of defrost (R67). -/
def Entry.counted (e : Entry) : Entry :=
  if e.state = .warming then
    { e with exec := e.exec.map fun x => { x with defrostSpent := min 900 (x.defrostSpent + 1) } }
  else e

/-- The departure snapshot of a lead on a session (R74). -/
def Entry.snapshotOn (e : Entry) (x : Session) : Snapshot :=
  { readiness := if e.state = .holding then .ready else .short
    cabin := x.lastReport.map Report.cabin
    stale := decide (x.state = .stale) }

/-- The record of an entry's end (R83). -/
def Entry.endRecord (e : Entry) (serial : Serial) (cause : EndCause) (readiness : Readiness) (scheduled : Nat) : OutcomeRecord :=
  { serial := serial, number := e.number, tag := e.tag, outlet := e.occurrenceOutlet, scheduled := scheduled, readiness := readiness
    cabin := e.snapshot.bind fun n => n.cabin.map fun v => (v, n.stale)
    targetReached := e.exec.bind Execution.targetReached
    energy := (e.exec.map Execution.energy).getD 0 / 3600
    cause := cause
    conditions := (e.exec.map Execution.conditions).getD 0 }

/-- Between `s` and `t` one record has been appended to the outcome list: it has the next serial, a full list lost its oldest record, and
the notices of both are pending (R84, R85). -/
def Appended (s t : State) (r : OutcomeRecord) : Prop :=
  t.cab.outcomes = (if s.cab.outcomes.length < 16 then s.cab.outcomes else s.cab.outcomes.drop 1) ++ [r]
    ∧ r.serial = s.cab.nextSerial ∧ t.cab.nextSerial = s.cab.nextSerial + 1
    ∧ t.cab.notices.pending.getLsbD 0 = true
    ∧ (16 ≤ s.cab.outcomes.length → t.cab.notices.pending.getLsbD 1 = true)

end Sys2Proof.Machine
end

