-- ==== Sys2Proof/Certificates/Slice0/Obligations.lean ====
section
/-!
DEFINITION. The statements for the provers, each a proposition named after what it states.

A request in a free port is processed at once (R185). Where a statement speaks of one, its next state keeps the reply's payload in the port
until REPLY_FORMED: that division of R187 over the commands is the model's (log 3, log 4).
-/

open Sys2Proof Sys2Proof.Machine

/-! ## The step -/

/-- A step runs the command at the front of the queue with the queue's rest behind it, and with no command waiting leaves the state as it
is: the queue and the idle step are the model's choice (log 1). -/
def Obligations.StepRunsTheFrontCommand : Prop :=
  (∀ (c : Instr) (rest : List Instr) (s : State), step { s with pending := c :: rest } = exec c { s with pending := rest })
  ∧ (∀ s : State, s.pending = [] → step s = .next s)

/-- No command stops the part, and no command touches the queue of those waiting (log 1): whatever comes, it answers a next state (R191
answers a request that is refused, and R116 and R183 discard what is not taken). -/
def Obligations.EveryCommandAnswersAndKeepsTheQueue : Prop :=
  ∀ (c : Instr) (s : State), ∃ t, exec c s = .next t ∧ t.pending = s.pending

/-! ## The laws that every step keeps -/

/-- Every law holds right after reset. -/
def Obligations.LawsHoldAtReset : Prop :=
  AttentionLaw State.reset ∧ ShedLaw State.reset ∧ OutcomeLaw State.reset ∧ QueueLaw State.reset ∧ ClockLaw State.reset
    ∧ SettingsLaw State.reset ∧ PortLaw State.reset ∧ AllowanceLaw State.reset ∧ ProfileLaw State.reset
    ∧ DepartureLaws State.reset

/-- The attention line is asserted exactly when some class is both pending and enabled, after every command (R174). -/
def Obligations.AttentionLineFollowsTheNotices : Prop :=
  ∀ s t : State, AttentionLaw s → step s = .next t → AttentionLaw t

/-- The book never holds more than 32 entries, and their numbers stay distinct and in 0..31 (R2, R10); the outcome list keeps its capacity
and its serials run one by one up to the next serial (R84, R85). -/
def Obligations.BookAndOutcomesKeepTheirNumbers : Prop :=
  (∀ s t : State, BookLaw s → step s = .next t → BookLaw t)
  ∧ (∀ s t : State, OutcomeLaw s → step s = .next t → OutcomeLaw t)

/-- No outbound queue ever needs more than four places, nor holds two live records of one kind (R132, R135), and no sent list more than
four records (R125); the merging of a STOP into a live one is as in log 19. -/
def Obligations.OutboundQueuesStayWithinFourRecords : Prop := ∀ s t : State, QueueLaw s → step s = .next t → QueueLaw t

/-- The settings stay in the ranges to which the part clamps them and the interval timer never passes the active interval (R42, R43, R46, R90 to
R92); the calendar stays in its span and is UNSET once it reaches the end of it (R140, R144); the shed latch is set whenever the filtered
level is asserted (R160); a profile slot in use stays loaded, and what is loaded is in range (R30 to R33). -/
def Obligations.SettingsCalendarLatchAndProfilesStayInOrder : Prop :=
  (∀ s t : State, SettingsLaw s → step s = .next t → SettingsLaw t)
  ∧ (∀ s t : State, ClockLaw s → step s = .next t → ClockLaw t)
  ∧ (∀ s t : State, ShedLaw s → step s = .next t → ShedLaw t)
  ∧ (∀ s t : State, ProfileLaw s → step s = .next t → ProfileLaw t)

/-- The port answers one request at a time, holds at most one more, has at most four BUSY answers waiting, and has exactly one reply on
the way while a request is REPLYING (R185 to R189). -/
def Obligations.PortAnswersOneRequestAtATime : Prop := ∀ s t : State, PortLaw s → step s = .next t → PortLaw t

/-- The sum of the released grants never exceeds the active allowance, and while power is stopped every released grant is zero (R98). The law counts a
deferred raise as if it were released, so that the sum holds through its release (R103). -/
def Obligations.ReleasedGrantsKeepTheAllowance : Prop := ∀ s t : State, AllowanceLaw s → step s = .next t → AllowanceLaw t

/-- While the calendar is set, the lead of an outlet is the bound entry with the earliest next departure (R20); an outlet has at most one
lead, which is bound and planned; no two entries have one tag and departure; and every next departure is as the calendar's state has it (R3,
R5, R10, R27). The law rests on the model's clearing of the unsupplied main domain (log 13) and on the book kept in number order (log 30). -/
def Obligations.LeadsAndDeparturesStayLawful : Prop := ∀ s t : State, DepartureLaws s → step s = .next t → DepartureLaws t

/-! ## The calendar -/

/-- A depot time and its broken-down form name the same instant, both ways (R140), and the seven bytes in which it is sent read back as
that form (R201). -/
def Obligations.DepotTimeAndItsFormsAgree : Prop :=
  (∀ t : Nat, t ≤ 3155759999 →
    (calendarTimeOf t).valid = true ∧ depotTimeOf (calendarTimeOf t) = t ∧ calendarAt (encTime t) 0 = calendarTimeOf t)
    ∧ ∀ v : CalendarTime, v.valid = true → depotTimeOf v ≤ 3155759999 ∧ calendarTimeOf (depotTimeOf v) = v

/-- One second later, the calendar has advanced with the carries of R138, and the weekday with each day. -/
def Obligations.CalendarAdvancesWithCarries : Prop :=
  ∀ t : Nat, t < 3155759999 →
    let c := calendarTimeOf t
    calendarTimeOf (t + 1) =
        (if c.second < 59 then { c with second := c.second + 1 }
        else if c.minute < 59 then { c with second := 0, minute := c.minute + 1 }
        else if c.hour < 23 then { c with second := 0, minute := 0, hour := c.hour + 1 }
        else if c.day < monthLength c.year c.month then { c with second := 0, minute := 0, hour := 0, day := c.day + 1 }
        else if c.month < 12 then { c with second := 0, minute := 0, hour := 0, day := 1, month := c.month + 1 }
        else { c with second := 0, minute := 0, hour := 0, day := 1, month := 1, year := c.year + 1 })
      ∧ weekdayOf (t + 1) =
        (if c.second = 59 ∧ c.minute = 59 ∧ c.hour = 23 then (weekdayOf t + 1) % 7 else weekdayOf t)

/-- The next-occurrence search answers the earliest matching minute after the reference within its horizon and the span, and none when there is
none (R6, R7). A search that passes over the departures of other entries answers a time that is none of them and passes over nothing else;
when it answers none, the search from the reference or from one of those departures found none (R8, R10). That it is repeated at most once
more than there are such departures is the model's form of R8 (log 34). -/
def Obligations.SearchFindsTheEarliestOccurrence : Prop :=
  (∀ (p : Pattern) (ref : Nat), p.minute ≤ 59 → p.hour ≤ 23 →
      let ok := fun t : Nat => t % 60 = 0 ∧ ref < t ∧ t ≤ ref + 126230400 ∧ t ≤ 3155759940
        ∧ (calendarTimeOf t).minute = p.minute ∧ (calendarTimeOf t).hour = p.hour
        ∧ (p.weekdays = 0 ∨ p.weekdays.getLsbD (weekdayOf t) = true)
        ∧ (∀ d, p.day = some d → (calendarTimeOf t).day = d) ∧ (∀ m, p.month = some m → (calendarTimeOf t).month = m)
      (∀ t, p.nextOccurrence ref = some t ↔ ok t ∧ ∀ u, ok u → t ≤ u) ∧ (p.nextOccurrence ref = none ↔ ∀ t, ¬ ok t))
  ∧ (∀ (p : Pattern) (taken : List Nat) (ref : Nat), p.minute ≤ 59 → p.hour ≤ 23 →
      (∀ t, p.nextFree taken (taken.length + 1) ref = some t →
        ref < t ∧ t ∉ taken ∧ t % 60 = 0 ∧ p.matchesMinute t = true
          ∧ ∀ u, ref < u → u < t → u % 60 = 0 → p.matchesMinute u = true → u ∈ taken)
      ∧ (p.nextFree taken (taken.length + 1) ref = none → ∃ r, (r = ref ∨ r ∈ taken) ∧ p.nextOccurrence r = none))

/-! ## The Planner -/

/-- The warm seconds are the least number of seconds in which the net heat power delivers the warm-up heat (R52, R53). -/
def Obligations.WarmSecondsAreTheLeastThatSuffice : Prop :=
  ∀ i : PlanInputs, 0 < i.deficit → 0 < i.netPower →
    i.warmHeat * 1000 ≤ i.warmFull * i.netPower
      ∧ ∀ n : Int, i.warmHeat * 1000 ≤ n * i.netPower → i.warmFull ≤ n

/-- A plan's parts agree and keep their limits: the start is the departure less the lead time and never after the departure, the slack what
is left before it, the lead time at most 14,400 s, and the hold power between the profile's draws (R54 to R57, R59); a start that would fall
before the span stays within it (R140; log 15). The delivery factor of a loaded profile is never outside the factors its table may hold
(R50, R51). -/
def Obligations.PlansKeepTheirLimits : Prop :=
  (∀ i : PlanInputs, i.profile.minDraw ≤ i.profile.maxDraw → 0 ≤ i.profile.heatCapacity →
      (i.plan.leadTime ≤ i.departure → i.plan.start + i.plan.leadTime = i.departure)
        ∧ i.plan.start ≤ i.departure
        ∧ i.plan.slack = (i.departure : Int) - i.now - i.plan.leadTime
        ∧ i.plan.leadTime ≤ 14400 ∧ i.plan.warmSeconds ≤ 14400 ∧ i.plan.defrostLeft ≤ i.profile.defrost
        ∧ i.profile.minDraw ≤ i.plan.holdPower ∧ i.plan.holdPower ≤ i.profile.maxDraw
        ∧ (0 ≤ i.leadFull → i.leadFull ≤ 14400 → (i.plan.leadTime : Int) = i.plan.warmSeconds + i.plan.defrostLeft + i.margin))
  ∧ (∀ (p : Profile) (t : Int), p.tableOk = true → 50 ≤ p.factorAt t ∧ p.factorAt t ≤ 400)

/-! ## Requests: the port's part -/

/-- A payload of a length that does not fit the request is answered BAD_LENGTH, and a TYPE outside the catalogue UNKNOWN_TYPE; nothing else
changes (R187, R200, R202). -/
def Obligations.WrongLengthAndUnknownTypeChangeNothing : Prop :=
  (∀ (s : State) (p : List Byte), s.portFree →
      (p.length ≠ 0 →
        exec (.identify p) s = .next (s.answered 0x01 p [0x02]) ∧ exec (.readStatus p) s = .next (s.answered 0x02 p [0x02])
        ∧ exec (.readClock p) s = .next (s.answered 0x03 p [0x02]) ∧ exec (.readNotices p) s = .next (s.answered 0x10 p [0x02])
        ∧ exec (.readOutcomes p) s = .next (s.answered 0x13 p [0x02]) ∧ exec (.quiesce p) s = .next (s.answered 0x15 p [0x02])
        ∧ exec (.resume p) s = .next (s.answered 0x16 p [0x02]) ∧ exec (.restart p) s = .next (s.answered 0x17 p [0x02]))
      ∧ (p.length ≠ 1 →
        exec (.readProfile p) s = .next (s.answered 0x09 p [0x02]) ∧ exec (.clearProfile p) s = .next (s.answered 0x0A p [0x02])
        ∧ exec (.cancel p) s = .next (s.answered 0x0C p [0x02]) ∧ exec (.readBook p) s = .next (s.answered 0x0D p [0x02])
        ∧ exec (.readEntry p) s = .next (s.answered 0x0E p [0x02])
        ∧ ∀ ms, exec (.readOutlet ms p) s = .next ((s.atTime ms).answered 0x0F p [0x02]))
      ∧ (p.length ≠ 2 →
        exec (.setOutdoor p) s = .next (s.answered 0x07 p [0x02]) ∧ exec (.ackNotices p) s = .next (s.answered 0x11 p [0x02])
        ∧ exec (.setNoticeEnable p) s = .next (s.answered 0x12 p [0x02])
        ∧ exec (.dropOutcomes p) s = .next (s.answered 0x14 p [0x02]))
      ∧ (p.length ≠ 4 →
        exec (.setSite p) s = .next (s.answered 0x05 p [0x02]) ∧ exec (.setAllowance p) s = .next (s.answered 0x06 p [0x02]))
      ∧ (p.length ≠ 7 → exec (.setClock p) s = .next (s.answered 0x04 p [0x02]))
      ∧ (p.length ≠ 27 → exec (.loadProfile p) s = .next (s.answered 0x08 p [0x02]))
      ∧ ((p.length ≠ 22 ∧ p.length ≠ 23) ∨ (p.length = 23 ∧ u8At p 13 = 2) ∨ (p.length = 22 ∧ u8At p 13 = 1) →
        exec (.book p) s = .next (s.answered 0x0B p [0x02])))
  ∧ (∀ (s : State) (ty : Byte) (p : List Byte), s.portFree → ty.toNat = 0 ∨ 23 < ty.toNat →
      exec (.unknownType ty p) s = .next (s.answered ty p [0x03]))

/-- A request of any TYPE that comes while another is being answered is held unexamined, and one that finds the held slot full is answered
BUSY, which an IDLE transmitter begins at once, or dropped and counted when four answers wait: its block sees nothing of it (R185, R186,
R188). -/
def Obligations.RequestsBehindAnotherAreHeldOrAnsweredBusy : Prop :=
  ∀ (s : State) (c : Instr) (r : Request), s.supply = .main → requestOf c = some r → s.port.current ≠ none →
    let s1 := s.atRequest c
    let busy : OutFrame := { isReply := false, ty := r.ty + 0x80, payload := [0x01] }
    (s.port.held = none → exec c s = .next { s1 with port := { s.port with held := some r } })
    ∧ (s.port.held ≠ none → s.port.waiting.length < 4 →
      (s.port.sending = none → exec c s = .next { s1 with port := { s.port with sending := some busy } })
      ∧ (s.port.sending ≠ none → exec c s = .next { s1 with port := { s.port with outbox := s.port.outbox ++ [busy] } }))
    ∧ (s.port.held ≠ none → 4 ≤ s.port.waiting.length →
      exec c s = .next { s1 with port := { s.port with discards := min 65535 (s.port.discards + 1) } })

/-! ## Requests that read -/

/-- The reading requests answer with the values as they stand and change nothing but the port's current request; READ_OUTLET moves the
part's millisecond time as well (R15, R36, R86, R153, R192 to R195). A number out of range is refused OUT_OF_RANGE and an entry number that
no entry holds NOT_FOUND (R16, R36, R194). The replies have the lengths of R203, R205 and R207, and the book is read in departure order
(R9). -/
def Obligations.ReadingRequestsChangeOnlyTheReply : Prop :=
  (∀ s : State, s.portFree →
      exec (.identify []) s = .next (s.answered 0x01 [] identifyReply)
      ∧ exec (.readStatus []) s = .next (s.answered 0x02 [] (statusReply s))
      ∧ exec (.readClock []) s = .next (s.answered 0x03 [] (clockReply s.clock))
      ∧ (∀ (b : Byte) (h : b.toNat < 16), exec (.readProfile [b]) s = .next (s.answered 0x09 [b] (profileReply s ⟨b.toNat, h⟩)))
      ∧ (∀ b : Byte, 16 ≤ b.toNat → exec (.readProfile [b]) s = .next (s.answered 0x09 [b] [0x04]))
      ∧ (∀ b : Byte, exec (.readBook [b]) s = .next (s.answered 0x0D [b] (bookReply s.cab b.toNat)))
      ∧ (∀ (b : Byte) (e : Entry), b.toNat < 32 → s.cab.entry? b.toNat = some e →
        exec (.readEntry [b]) s = .next (s.answered 0x0E [b] (entryReply e)))
      ∧ (∀ b : Byte, 32 ≤ b.toNat → exec (.readEntry [b]) s = .next (s.answered 0x0E [b] [0x04]))
      ∧ (∀ b : Byte, b.toNat < 32 → s.cab.entry? b.toNat = none → exec (.readEntry [b]) s = .next (s.answered 0x0E [b] [0x07]))
      ∧ (∀ (b : Byte) (h : b.toNat < 8) (ms : Nat),
        exec (.readOutlet ms [b]) s =
          .next ((s.atTime ms).answered 0x0F [b] (outletReply s.cab ⟨b.toNat, h⟩ (max s.ms ms))))
      ∧ (∀ (b : Byte) (ms : Nat), 8 ≤ b.toNat → exec (.readOutlet ms [b]) s = .next ((s.atTime ms).answered 0x0F [b] [0x04]))
      ∧ exec (.readOutcomes []) s = .next (s.answered 0x13 [] (outcomesReply s.cab)))
  ∧ ((∀ c : TimeBase, (clockReply c).length = 23) ∧ identifyReply.length = 26
      ∧ (∀ s p, (profileReply s p).length = 29) ∧ (∀ e : Entry, (entryReply e).length = 90)
      ∧ (∀ c o now, (outletReply c o now).length = 88)
      ∧ (∀ c start, (bookReply c start).length = 3 + 25 * min 8 (c.book.length - start))
      ∧ ∀ c : Cabinet, (outcomesReply c).length = 4 + 42 * min 4 c.outcomes.length)
  ∧ (∀ c : Cabinet, c.bookOrder.Perm c.book ∧
      c.bookOrder.Pairwise fun a b =>
        match a.next, b.next with
        | some x, some y => x < y ∨ (x = y ∧ a.number ≤ b.number)
        | some _, none => True
        | none, some _ => False
        | none, none => a.number ≤ b.number)

/-- The replies to READ_CLOCK, READ_PROFILE, READ_BOOK, READ_ENTRY, READ_OUTCOMES, READ_OUTLET and IDENTIFY have the layouts of R203, R205
and R207: each field at its offset with the value of R15, R36, R83, R153, R192, R194 or R195, an absent one as R201 sends it. -/
def Obligations.ReadingRepliesHaveTheirLayouts : Prop :=
  let field := fun (r : List Byte) (off n : Nat) => (r.drop off).take n
  let absent := fun n : Nat => List.replicate n (0xFF : Byte)
  let tagField := fun t : Tag => enc8 t.length ++ (t ++ List.replicate (12 - t.length) 0).take 12
  identifyReply =
      [0x00, 7, 0x52, 0x6F, 0x74, 0x69, 0x6C, 0x61, 0x6E, 6, 0x57, 0x65, 0x6A, 0x74, 0x6F, 0x72, 3, 0x57, 0x38, 0x43, 1, 0x43, 8, 32, 16, 16]
  ∧ (∀ c : TimeBase,
      let r := clockReply c
      field r 0 8 = 0x00 :: encTime c.depotTime ∧ field r 8 1 = enc8 (weekdayOf c.depotTime) ∧ field r 9 4 = enc32 c.depotTime
        ∧ field r 13 1 = [calendarCode c.calendar] ∧ field r 14 1 = [sourceCode c.source] ∧ field r 15 4 = enc32 c.u
        ∧ field r 19 1 = enc8 c.passCount ∧ (∀ w, c.lastWindow = some w → field r 20 3 = 0x01 :: enc16 w.toNat)
        ∧ (c.lastWindow = none → field r 20 3 = 0x00 :: absent 2))
  ∧ (∀ (s : State) (p : SlotNo),
      let r := profileReply s p
      (∀ x, s.profiles.get p = some x →
        field r 0 2 = [0x00, 0x01] ∧ field r 2 2 = encS16 x.heatCapacity ∧ field r 4 2 = encS16 x.lossCoefficient
          ∧ field r 6 2 = enc16 x.maxDraw ∧ field r 8 2 = enc16 x.minDraw
          ∧ field r 10 4 = encS16 x.p0.temp ++ encS16 x.p0.factor ∧ field r 14 4 = encS16 x.p1.temp ++ encS16 x.p1.factor
          ∧ field r 18 4 = encS16 x.p2.temp ++ encS16 x.p2.factor ∧ field r 22 4 = encS16 x.p3.temp ++ encS16 x.p3.factor
          ∧ field r 26 2 = enc16 x.defrost)
        ∧ (s.profiles.get p = none → field r 0 28 = 0x00 :: 0x00 :: absent 26)
        ∧ ∃ users : Byte, field r 28 1 = [users] ∧ ∀ o : OutletNo, users.getLsbD o.val = (s.cab.session o).uses p)
  ∧ (∀ (c : Cabinet) (start i : Nat) (e : Entry),
      let r := bookReply c start
      field r 0 3 = 0x00 :: (enc8 c.book.length ++ enc8 (min 8 (c.book.length - start)))
        ∧ (i < 8 → c.bookOrder[start + i]? = some e →
          let off := 3 + 25 * i
          field r off 1 = enc8 e.number ∧ field r (off + 1) 13 = tagField e.tag ∧ field r (off + 14) 1 = [kindCode e.booking]
            ∧ field r (off + 15) 8 = encOptTime e.next ∧ field r (off + 23) 1 = enc8 (entryStateCode e.state)
            ∧ field r (off + 24) 1 = encOpt8 (e.bound.map Fin.val)))
  ∧ (∀ e : Entry,
      let r := entryReply e
      field r 0 2 = 0x00 :: enc8 e.number ∧ field r 2 13 = tagField e.tag ∧ field r 15 1 = [kindCode e.booking]
        ∧ (∀ d, e.booking = .oneShot d → field r 16 7 = encTime d)
        ∧ (∀ p, e.booking = .recurring p →
          field r 16 7 = enc8 p.minute ++ enc8 p.hour ++ [p.weekdays.setWidth 8] ++ encOpt8 p.day ++ encOpt8 p.month ++ absent 2)
        ∧ field r 23 2 = encS16 e.target ∧ field r 25 1 = enc8 e.grace ∧ field r 26 8 = encOptTime e.next
        ∧ field r 34 1 = enc8 (entryStateCode e.state) ∧ field r 35 1 = encOpt8 (e.bound.map Fin.val)
        ∧ field r 36 1 = encOpt8 (e.occurrenceOutlet.map Fin.val) ∧ field r 37 1 = encMark e.unreachable
        ∧ (e.plan = none → field r 38 23 = 0x00 :: absent 22)
        ∧ (∀ p, e.plan = some p →
          field r 38 8 = 0x01 :: encTime p.start ∧ field r 46 2 = enc16 p.leadTime ∧ field r 48 2 = enc16 p.warmSeconds
            ∧ field r 50 2 = enc16 p.defrostLeft ∧ field r 52 2 = enc16 p.holdPower
            ∧ field r 54 2 = enc16 (match e.state with | .warming => p.fullDraw | .holding => p.holdPower | _ => 0)
            ∧ field r 56 4 = encS32 p.slack ∧ field r 60 1 = [p.conditions])
        ∧ (e.exec = none → field r 61 29 = 0x00 :: absent 28)
        ∧ (∀ x, e.exec = some x →
          field r 61 1 = [0x01] ∧ field r 62 8 = encOptTime x.warmingBegan ∧ field r 70 8 = encOptTime x.targetReached
            ∧ field r 78 4 = enc32 (x.energy / 3600) ∧ field r 82 2 = enc16 x.defrostSpent
            ∧ (x.snapshot = none → field r 84 5 = 0x00 :: absent 4)
            ∧ (∀ n, x.snapshot = some n → field r 84 5 = [0x01, readinessCode n.readiness] ++ encTemp n.cabin ++ encMark n.stale)
            ∧ field r 89 1 = [x.conditions]))
  ∧ (∀ (c : Cabinet) (i : Nat) (x : OutcomeRecord),
      let r := outcomesReply c
      field r 0 4 = 0x00 :: (enc8 c.outcomes.length ++ enc16 c.nextSerial.toNat)
        ∧ (i < 4 → c.outcomes[i]? = some x →
          let off := 4 + 42 * i
          field r off 2 = enc16 x.serial.toNat ∧ field r (off + 2) 1 = enc8 x.number ∧ field r (off + 3) 13 = tagField x.tag
            ∧ field r (off + 16) 1 = encOpt8 (x.outlet.map Fin.val) ∧ field r (off + 17) 7 = encTime x.scheduled
            ∧ field r (off + 24) 1 = [readinessCode x.readiness]
            ∧ (∀ v stale, x.cabin = some (v, stale) → field r (off + 25) 3 = encS16 v ++ encMark stale)
            ∧ (x.cabin = none → field r (off + 25) 3 = [0x80, 0x00, 0xFF])
            ∧ field r (off + 28) 8 = encOptTime x.targetReached ∧ field r (off + 36) 4 = enc32 x.energy
            ∧ field r (off + 40) 2 = [endCauseCode x.cause, x.conditions]))
  ∧ (∀ (c : Cabinet) (o : OutletNo) (now : Nat), (c.session o).queue.length ≤ 4 → (c.session o).sent.length ≤ 4 →
      let r := outletReply c o now
      let x := c.session o
      let g := (c.outlet o).grants
      field r 0 2 = 0x00 :: encMark (c.outlet o).plug.asserted ∧ field r 2 1 = [sessionStateCode x.state]
        ∧ field r 3 1 = [(x.cameFrom.map cameFromCode).getD 0xFF] ∧ field r 4 13 = tagField (x.tag.getD [])
        ∧ field r 17 1 = encOpt8 (x.profile.map Fin.val) ∧ field r 18 1 = [(x.cause.map causeCode).getD 0xFF]
        ∧ field r 19 1 = [(x.endReason.map endReasonCode).getD 0xFF] ∧ field r 20 2 = enc8 x.misses ++ enc8 x.overdraw
        ∧ (x.lastReport = none → field r 22 11 = 0x00 :: absent 10)
        ∧ (∀ v, x.lastReport = some v →
          field r 22 1 = [0x01] ∧ field r 23 2 = encS16 v.cabin ∧ field r 25 1 = encMark v.clamped ∧ field r 26 2 = enc16 v.draw
            ∧ (v.named = none → field r 28 3 = 0x00 :: absent 2) ∧ (∀ q, v.named = some q → field r 28 3 = 0x01 :: enc16 q.toNat)
            ∧ field r 31 2 = enc16 (min 65535 (now - v.receivedAt)))
        ∧ (x.acked = none → field r 33 7 = 0x00 :: absent 6)
        ∧ (∀ a, x.acked = some a →
          field r 33 7 = 0x01 :: (enc16 a.seq.toNat ++ enc16 a.watts ++ enc8 x.lease ++ encMark (decide (x.lease = 0))))
        ∧ field r 40 1 = enc8 (c.outlet o).residual ∧ field r 41 1 = [if x.channel = .idle then 0x00 else 0x01]
        ∧ field r 42 1 = enc8 x.sent.length
        ∧ (∀ i, i < 4 → field r (43 + 2 * i) 2 = ((x.sent[i]?).map fun q => enc16 q.seq.toNat).getD (absent 2))
        ∧ field r 51 1 = enc8 x.queue.length
        ∧ (∀ i, i < 4 → field r (52 + 6 * i) 6 = ((x.queue[i]?).map fun q =>
            (match q.body with
              | .welcome _ cause => [0x11, 0xFF, 0xFF, if cause = none then 0x00 else 0x01]
              | .grant seq _ _ => 0x12 :: (enc16 seq.toNat ++ [0xFF])
              | .stop seq _ => 0x13 :: (enc16 seq.toNat ++ [0xFF]))
            ++ encMark (decide (i = 0 ∧ x.headInFlight = true)) ++ encMark q.stale).getD (absent 6))
        ∧ field r 76 4 = enc16 g.released ++ enc16 g.lastSeq.toNat ∧ field r 80 2 = (g.deferred.map enc16).getD (absent 2)
        ∧ (g.mark = none → field r 82 3 = 0x00 :: absent 2) ∧ (∀ m, g.mark = some m → field r 82 3 = 0x01 :: enc16 m.toNat)
        ∧ field r 85 1 = encOpt8 ((c.leadOf o).map Entry.number)
        ∧ field r 86 1 = encOpt8 ((c.leadOf o).map fun e => entryStateCode e.state)
        ∧ field r 87 1 = enc8 (c.book.countP fun e => decide (e.bound = some o)))

/-- The reply to READ_STATUS has the 53 bytes of R206, each field at its offset with the value of R193. -/
def Obligations.StatusReplyHasItsLayout : Prop :=
  ∀ s : State,
    let r := statusReply s
    let field := fun off n : Nat => (r.drop off).take n
    r.length = 53 ∧ field 0 1 = [0x00] ∧ field 1 1 = [calendarCode s.clock.calendar] ∧ field 2 7 = encTime s.clock.depotTime
      ∧ field 9 1 = [outdoorCode s.planner.outdoorState] ∧ field 10 2 = encTemp s.planner.outdoor
      ∧ field 12 1 = encMark s.planner.outdoorClamped ∧ field 13 2 = enc16 s.planner.outdoorAge
      ∧ field 15 2 = enc16 s.planner.baseMargin
      ∧ field 17 4 = enc32 s.arbiter.pendingAllowance ∧ field 21 4 = enc32 s.arbiter.activeAllowance
      ∧ field 25 1 = enc8 s.arbiter.pendingInterval ∧ field 26 1 = enc8 s.arbiter.activeInterval
      ∧ field 27 1 = enc8 s.arbiter.secondsLeft
      ∧ field 28 4 = enc32 (outletNumbers.map fun o => (s.cab.outlet o).grants.released).sum
      ∧ field 32 1 = enc8 (outletNumbers.filter fun o => (s.cab.outlet o).grants.mark.isSome).length
      ∧ field 33 1 = encMark s.shed.filter.asserted ∧ field 34 1 = encMark s.shed.latch
      ∧ field 35 1 = [quiesceCode s.cab.quiesce]
      ∧ field 36 1 = enc8 (outletNumbers.filter fun o => (s.cab.outlet o).holdsGrant).length
      ∧ field 37 1 = enc8 ((outletNumbers.map fun o => (s.cab.outlet o).residual).foldl max 0)
      ∧ field 38 1 = enc8 s.cab.book.length ∧ field 39 1 = enc8 s.cab.outcomes.length
      ∧ field 40 2 = enc16 s.cab.nextSerial.toNat
      ∧ field 42 8 = outletNumbers.map (fun o => sessionStateCode (s.cab.session o).state)
      ∧ field 50 1 = encMark s.cab.notices.attention ∧ field 51 2 = enc16 s.port.discards

/-! ## Requests that set -/

/-- SET_ALLOWANCE and SET_SITE store what they carry, clamped, as pending values and the base margin, answer with what they stored, and
change nothing else: no active value and no timer (R46, R90, R91). -/
def Obligations.SettingsAreClampedAndPending : Prop :=
  ∀ (s : State) (p : List Byte), s.portFree → p.length = 4 →
    exec (.setAllowance p) s = .next (State.answered
      { s with arbiter := { s.arbiter with pendingAllowance := min 250000 (u32At p 0) } }
      0x06 p (0x00 :: enc32 (min 250000 (u32At p 0))))
    ∧ exec (.setSite p) s = .next (State.answered
      { s with
        arbiter := { s.arbiter with pendingInterval := max 5 (min 60 (u16At p 0)) }
        planner := { s.planner with baseMargin := min 900 (u16At p 2) } }
      0x05 p (0x00 :: (enc16 (max 5 (min 60 (u16At p 0))) ++ enc16 (min 900 (u16At p 2)))))

/-- SET_OUTDOOR stores the clamped value with its mark, makes it FRESH with age 0, and plans every bound lead again with it (R42); a passage
to AGED that its second has already made due is taken first, with its notice (R43; log 6). The value passes to AGED when its age has passed
900 s, with its notice, and plans nothing again (R43). -/
def Obligations.OutdoorValueIsStoredFreshAndAges : Prop :=
  (∀ (s : State) (p : List Byte), s.portFree → p.length = 2 →
      let v := max (-500) (min 600 (s16At p 0))
      let s0 : State := if s.planner.outdoorState = .fresh ∧ 900 < s.planner.outdoorAge then { s with cab := s.cab.raise .outdoorStale } else s
      let s1 : State := { s0 with planner :=
        { s.planner with outdoorState := .fresh, outdoor := some v, outdoorClamped := decide (v ≠ s16At p 0), outdoorAge := 0 } }
      exec (.setOutdoor p) s = .next (State.answered { s1 with cab := s1.cab.replanAll s1.env }
        0x07 p (0x00 :: (encS16 v ++ encMark (decide (v ≠ s16At p 0))))))
  ∧ (∀ s : State, s.supply = .main → s.planner.outdoorState = .fresh →
      exec .outdoorAged s = .next
        (if 900 < s.planner.outdoorAge then
          { s with planner := { s.planner with outdoorState := .aged }, cab := s.cab.raise .outdoorStale }
        else s))

/-- SET_CLOCK refuses a value that is no date and time of the span; any other it sets, with u at 0 and the state by the source, or UNSET
at the end of the span; the timers, the settings, and of the sessions all but their queues stand (R92, R150, R151). What the Book does with
the change is stated by BookFollowsTheClock. -/
def Obligations.SetClockSetsTheCalendarOrRefuses : Prop :=
  ∀ (s : State) (p : List Byte), s.portFree → p.length = 7 →
    ((calendarAt p 0).valid = false → exec (.setClock p) s = .next (s.answered 0x04 p [0x04]))
    ∧ ((calendarAt p 0).valid = true → ∃ t, exec (.setClock p) s = .next t
      ∧ t.clock = { s.clock with
          depotTime := depotTimeOf (calendarAt p 0), u := 0
          calendar := if depotTimeOf (calendarAt p 0) = 3155759999 then .unset
            else if s.clock.source = .crystal then .trueTime else .drifting }
      ∧ t.port = (s.answered 0x04 p [0x00, calendarCode t.clock.calendar]).port
      ∧ t.arbiter = s.arbiter ∧ t.planner = s.planner ∧ t.profiles = s.profiles ∧ t.shed = s.shed ∧ t.supply = s.supply
      ∧ t.ms = s.ms ∧ t.cab.quiesce = s.cab.quiesce
      ∧ ∀ o, (t.cab.session o).butQueue = (s.cab.session o).butQueue
        ∧ (t.cab.outlet o).plug = (s.cab.outlet o).plug ∧ (t.cab.outlet o).residual = (s.cab.outlet o).residual)

/-- LOAD_PROFILE and CLEAR_PROFILE refuse a slot outside 0..15, a record out of range and a slot in use, in that order; an accepted CLEAR
empties the slot and changes nothing else; an accepted LOAD puts the record there (R31 to R35). The LOAD then tests every UNMATCHED session
that names the slot again, in outlet-number order: one whose tag no entry has, or whose tag another session holds or takes before it, stays
UNMATCHED with that cause, and any other becomes IDENTIFIED with its tag's entries (R17, R19, R34). No other session changes. -/
def Obligations.ProfilesAreLoadedAndClearedUnlessInUse : Prop :=
  ∀ (s : State) (p : List Byte), s.portFree →
    (p.length = 1 → 16 ≤ u8At p 0 → exec (.clearProfile p) s = .next (s.answered 0x0A p [0x04]))
    ∧ (p.length = 1 → ∀ h : u8At p 0 < 16,
      ((∃ o, (s.cab.session o).uses ⟨u8At p 0, h⟩ = true) → exec (.clearProfile p) s = .next (s.answered 0x0A p [0x08]))
      ∧ ((∀ o, (s.cab.session o).uses ⟨u8At p 0, h⟩ = false) →
        exec (.clearProfile p) s = .next (State.answered { s with profiles := s.profiles.set ⟨u8At p 0, h⟩ none } 0x0A p [0x00])))
    ∧ (p.length = 27 →
      (16 ≤ u8At p 0 ∨ (profileIn p).scalarsOk = false ∨ (profileIn p).tableOk = false →
        exec (.loadProfile p) s = .next (s.answered 0x08 p [0x04]))
      ∧ ∀ h : u8At p 0 < 16, (profileIn p).scalarsOk = true → (profileIn p).tableOk = true →
        ((∃ o, (s.cab.session o).uses ⟨u8At p 0, h⟩ = true) → exec (.loadProfile p) s = .next (s.answered 0x08 p [0x08]))
        ∧ ((∀ o, (s.cab.session o).uses ⟨u8At p 0, h⟩ = false) → ∃ t, exec (.loadProfile p) s = .next t
          ∧ t.profiles = s.profiles.set ⟨u8At p 0, h⟩ (some (profileIn p))
          ∧ (∀ o, (s.cab.session o).state ≠ .unmatched ∨ (s.cab.session o).profile ≠ some ⟨u8At p 0, h⟩
              ∨ (s.cab.session o).tag = none →
            t.cab.session o = s.cab.session o)
          ∧ (∀ o tag, (s.cab.session o).state = .unmatched → (s.cab.session o).profile = some ⟨u8At p 0, h⟩ →
            (s.cab.session o).tag = some tag →
            let taken := ∃ x, (x ≠ o ∧ (s.cab.session x).holdsBinding = true ∧ (s.cab.session x).tag = some tag)
              ∨ (x < o ∧ (s.cab.session x).state = .unmatched ∧ (s.cab.session x).profile = some ⟨u8At p 0, h⟩
                ∧ (s.cab.session x).tag = some tag)
            ((∀ e ∈ s.cab.book, e.tag ≠ tag) → t.cab.session o = { s.cab.session o with cause := some .unknownTag })
            ∧ ((∃ e ∈ s.cab.book, e.tag = tag) → taken → t.cab.session o = { s.cab.session o with cause := some .tagConflict })
            ∧ ((∃ e ∈ s.cab.book, e.tag = tag) → ¬ taken →
              (t.cab.session o).butQueue =
                { (s.cab.session o).butQueue with state := .identified, cause := none, energyRef := none, overdraw := 0 }
              ∧ (∃ r ∈ (t.cab.session o).queue, r.stale = false ∧ r.body = .welcome (some tag) none)
              ∧ (∀ e ∈ t.cab.book, e.tag = tag → e.bound = some o ∧ e.occurrenceOutlet = some o)
              ∧ t.cab.notices.pending.getLsbD 2 = true))
          ∧ (∀ o, (t.cab.outlet o).plug = (s.cab.outlet o).plug)
          ∧ t.cab.outcomes = s.cab.outcomes ∧ t.clock = s.clock ∧ t.planner = s.planner ∧ t.arbiter = s.arbiter ∧ t.shed = s.shed
          ∧ t.port = (s.answered 0x08 p [0x00]).port))

/-! ## The book -/

/-- BOOK is judged in the order of R11 to R13: a field out of range, no departure to work toward, a duplicate, a full book, for both kinds of
booking and with the calendar set or not; a refused BOOK changes nothing. -/
def Obligations.BookIsRefusedInTheOrderOfItsChecks : Prop :=
  ∀ (s : State) (p : List Byte), s.portFree → bookLengthOk p = true →
    let isSet := s.clock.isSet
    let now := s.clock.depotTime
    (bookRequestIn p = none → exec (.book p) s = .next (s.answered 0x0B p [0x04]))
    ∧ ∀ r, bookRequestIn p = some r →
      (∀ d, r.booking = .oneShot d → isSet = true → d ≤ now + 60 → exec (.book p) s = .next (s.answered 0x0B p [0x09]))
      ∧ (∀ q, r.booking = .recurring q → q.nextOccurrence (if isSet then now else 0) = none →
        exec (.book p) s = .next (s.answered 0x0B p [0x0A]))
      ∧ (∀ d, r.booking = .oneShot d → isSet = true → now + 60 < d → (∃ e ∈ s.cab.book, e.tag = r.tag ∧ e.next = some d) →
        exec (.book p) s = .next (s.answered 0x0B p [0x06]))
      ∧ (∀ d, r.booking = .oneShot d → isSet = false → (∃ e ∈ s.cab.book, e.tag = r.tag ∧ e.booking = .oneShot d) →
        exec (.book p) s = .next (s.answered 0x0B p [0x06]))
      ∧ (∀ q d, r.booking = .recurring q → isSet = true → q.nextOccurrence now = some d →
        (∃ e ∈ s.cab.book, e.tag = r.tag ∧ e.next = some d) → exec (.book p) s = .next (s.answered 0x0B p [0x06]))
      ∧ ((∀ n, n < 32 → ∃ e ∈ s.cab.book, e.number = n) →
        (∀ d, r.booking = .oneShot d → isSet = true → now + 60 < d → (∀ e ∈ s.cab.book, e.tag = r.tag → e.next ≠ some d) →
          exec (.book p) s = .next (s.answered 0x0B p [0x05]))
        ∧ (∀ d, r.booking = .oneShot d → isSet = false → (∀ e ∈ s.cab.book, e.tag = r.tag → e.booking ≠ .oneShot d) →
          exec (.book p) s = .next (s.answered 0x0B p [0x05]))
        ∧ (∀ q d, r.booking = .recurring q → isSet = true → q.nextOccurrence now = some d →
          (∀ e ∈ s.cab.book, e.tag = r.tag → e.next ≠ some d) → exec (.book p) s = .next (s.answered 0x0B p [0x05]))
        ∧ (∀ q d, r.booking = .recurring q → isSet = false → q.nextOccurrence 0 = some d →
          exec (.book p) s = .next (s.answered 0x0B p [0x05])))

/-- An accepted BOOK creates one entry, with the lowest free number and the fields carried, bound at once to the outlet whose session
holds its tag's binding (R1, R2, R13, R18). -/
def Obligations.AcceptedBookCreatesItsEntry : Prop :=
  ∀ (s : State) (p : List Byte) (r : BookRequest) (n : Nat) (next : Option Nat),
    s.portFree → bookLengthOk p = true → bookRequestIn p = some r → s.judgeBook r = .ok (n, next) →
    BookLaw s → BindingLaw s →
    (∀ e ∈ s.cab.book, e.number ≠ n) ∧ (∀ m, m < n → ∃ e ∈ s.cab.book, e.number = m)
    ∧ next.isSome = s.clock.isSet
    ∧ ∃ t e, exec (.book p) s = .next t ∧ t.cab.entry? n = some e
      ∧ e.tag = r.tag ∧ e.booking = r.booking ∧ e.target = r.target ∧ e.grace = r.grace ∧ e.next = next ∧ e.exec = none
      ∧ (∀ o, (s.cab.session o).holdsBinding = true → (s.cab.session o).tag = some r.tag →
        e.bound = some o ∧ e.occurrenceOutlet = some o)
      ∧ t.cab.book.length = s.cab.book.length + 1
      ∧ t.port = (s.answered 0x0B p (0x00 :: (enc8 n ++ encOptTime next))).port
      ∧ t.cab.outcomes = s.cab.outcomes ∧ t.clock = s.clock ∧ t.arbiter = s.arbiter ∧ t.profiles = s.profiles

/-- CANCEL refuses a number outside 0..31 and one that no entry holds; otherwise it removes the entry without an outcome. Of an entry that
is no lead nothing else follows; of a WARMING or HOLDING lead the outlet's grant is zeroed by a GRANT of 0 (R14, R105). -/
def Obligations.CancelRemovesTheEntryWithoutOutcome : Prop :=
  ∀ (s : State) (b : Byte), s.portFree →
    (32 ≤ b.toNat → exec (.cancel [b]) s = .next (s.answered 0x0C [b] [0x04]))
    ∧ (b.toNat < 32 → s.cab.entry? b.toNat = none → exec (.cancel [b]) s = .next (s.answered 0x0C [b] [0x07]))
    ∧ ∀ e, b.toNat < 32 → s.cab.entry? b.toNat = some e → BookLaw s → LeadLaw s →
      (e.state = .booked →
        exec (.cancel [b]) s = .next (State.answered
          { s with cab := { s.cab with book := s.cab.book.filter fun x => x.number != e.number } } 0x0C [b] [0x00]))
      ∧ ∃ t, exec (.cancel [b]) s = .next t
        ∧ (∀ x ∈ t.cab.book, x.number ≠ e.number) ∧ t.cab.book.length + 1 = s.cab.book.length
        ∧ t.cab.outcomes = s.cab.outcomes ∧ t.cab.nextSerial = s.cab.nextSerial
        ∧ t.port = (s.answered 0x0C [b] [0x00]).port
        ∧ (∀ o, e.bound = some o → e.isActive = true →
          (t.cab.outlet o).grants =
            { released := 0, lastSeq := (s.cab.outlet o).grants.nextSeq, nextSeq := (s.cab.outlet o).grants.nextSeq + 1
              deferred := none, mark := (s.cab.outlet o).grants.mark }
          ∧ ∃ r ∈ (t.cab.session o).queue, r.stale = false
            ∧ r.body = .grant (s.cab.outlet o).grants.nextSeq 0 (2 * s.arbiter.activeInterval + 5))
        ∧ (∀ o, e.bound ≠ some o → t.cab.outlet o = s.cab.outlet o)

/-- What the Book does with a SET_CLOCK from `t0` to `t1`. On a forward jump of more than 60 s an unbound entry whose departure is passed ends
SKIPPED, a lead takes its snapshot, and an entry whose grace expiry is passed ends GRACE_EXPIRED (R24); on any other jump an unbound entry
ends NOT_PRESENT, as at its second. With nothing passed, a BOOKED or WAITING RECURRING entry without a snapshot searches again from `t1`, and
every other entry keeps its departure (R25). Out of UNSET, a ONE_SHOT entry at or before `t1` ends SKIPPED, any other takes its booked
departure, and a RECURRING one the first its search finds, or it ends SKIPPED too (R26). Of these clauses on leaving UNSET three are the model's
choice: the scheduled departure of a RECURRING entry that ends with a snapshot is a free value (log 16), a RECURRING entry that finds its
occurrence has its occurrence outlet set from its binding (log 17), and the outcome of a ONE_SHOT entry names its booked departure (log 18).
Stated for one entry passed at a time and, of RECURRING entries, for one that is alone of its kind with its tag. -/
def Obligations.BookFollowsTheClock : Prop :=
  ∀ (s : State) (p : List Byte), s.portFree → p.length = 7 → (calendarAt p 0).valid = true → DepartureLaws s →
    let t0 := s.clock.depotTime
    let t1 := depotTimeOf (calendarAt p 0)
    t1 < 3155759999 → ∃ t, exec (.setClock p) s = .next t ∧ ∀ e ∈ s.cab.book,
      let soleRecurring := ∀ f ∈ s.cab.book, f.number ≠ e.number → f.tag = e.tag → ∃ d, f.booking = .oneShot d
      (s.clock.isSet = true → s.cab.NoOtherDue e t0 t1 → ∀ d, e.next = some d → t0 < d → d ≤ t1 → e.snapshot = none →
        (e.bound = none →
          let how : EndCause × Readiness := if t0 + 60 < t1 then (.skipped, .skipped) else (.notPresent, .absent)
          Appended s t (e.endRecord s.cab.nextSerial how.1 how.2 d)
            ∧ (∀ b, e.booking = .oneShot b → t.cab.entry? e.number = none)
            ∧ ∀ q, e.booking = .recurring q → t0 + 60 < t1 →
              t.cab.entry? e.number = (s.cab.findOccurrence e q t1).map fun u =>
                { e with next := some u, exec := none, occurrenceOutlet := none, unreachable := false })
        ∧ ∀ o, e.bound = some o → t0 + 60 < t1 → e.isLead = true → t1 < d + e.grace * 60 →
          t.cab.outcomes = s.cab.outcomes
            ∧ ∃ e', t.cab.entry? e.number = some e' ∧ e'.snapshot = some (e.snapshotOn (s.cab.session o))
              ∧ e'.state = e.state ∧ e'.next = some d ∧ e'.bound = some o)
      ∧ (s.clock.isSet = true → s.cab.NoOtherDue e t0 t1 → ∀ d n, e.next = some d → e.snapshot = some n →
        t0 < d + e.grace * 60 → d + e.grace * 60 ≤ t1 →
          Appended s t (e.endRecord s.cab.nextSerial .graceExpired n.readiness d)
            ∧ ∀ b, e.booking = .oneShot b → t.cab.entry? e.number = none)
      ∧ (s.clock.isSet = true → t1 ≤ t0 + 60 → (∀ f ∈ s.cab.book, ¬ f.DueIn t0 t1) →
        t.cab.outcomes = s.cab.outcomes ∧ ∃ e', t.cab.entry? e.number = some e'
          ∧ ((∀ q, e.booking ≠ .recurring q) ∨ e.state = .warming ∨ e.state = .holding ∨ e.snapshot ≠ none → e'.next = e.next)
          ∧ ∀ q, e.booking = .recurring q → e.state = .booked ∨ e.state = .waiting → e.snapshot = none → soleRecurring →
            e'.next = (match s.cab.findOccurrence e q t1 with
              | some u => some u
              | none => e.next)
              ∧ (e'.next ≠ e.next → e'.exec = none ∧ e'.occurrenceOutlet = e.bound))
      ∧ (s.clock.isSet = false → s.cab.outcomes.length + s.cab.book.length ≤ 16 →
        (∀ d, e.booking = .oneShot d →
          (d ≤ t1 → t.cab.entry? e.number = none ∧ ∃ r ∈ t.cab.outcomes,
            r = e.endRecord r.serial .skipped ((e.snapshot.map Snapshot.readiness).getD .skipped) d)
          ∧ (t1 < d → ∃ e', t.cab.entry? e.number = some e' ∧ e'.next = some d
            ∧ (e.bound = none → e' = { e with next := some d })))
        ∧ ∀ q, e.booking = .recurring q →
          (∀ n, e.snapshot = some n →
            ∃ r ∈ t.cab.outcomes, ∃ d, r = e.endRecord r.serial .skipped n.readiness d)
          ∧ (e.snapshot = none → soleRecurring →
            let taken := (s.cab.book.filter fun f => f.tag == e.tag).filterMap fun f => match f.booking with
              | .oneShot d => if t1 < d then some d else none
              | .recurring _ => none
            (∀ u, q.nextFree taken (taken.length + 1) t1 = some u →
              ∃ e', t.cab.entry? e.number = some e' ∧ e'.next = some u ∧ e'.exec = none ∧ e'.occurrenceOutlet = e.bound)
            ∧ (q.nextFree taken (taken.length + 1) t1 = none →
              t.cab.entry? e.number = none ∧ ∃ r ∈ t.cab.outcomes,
                r = { e with exec := none }.endRecord r.serial .skipped .skipped (t1 - t1 % 60))))

/-- DROP_OUTCOMES removes the record with the serial named and every older one, and answers how many; a serial that no record has is
answered NOT_FOUND (R87). The reply's payload is kept in the port until REPLY_FORMED (log 3, log 4). -/
def Obligations.DropRemovesUpToTheSerial : Prop :=
  ∀ (s : State) (p : List Byte), s.portFree → p.length = 2 →
    let v : Serial := BitVec.ofNat 16 (u16At p 0)
    ((∀ r ∈ s.cab.outcomes, r.serial ≠ v) → exec (.dropOutcomes p) s = .next (s.answered 0x14 p [0x07]))
    ∧ ∀ older r newer, s.cab.outcomes = older ++ r :: newer → r.serial = v → OutcomeLaw s →
      exec (.dropOutcomes p) s = .next (State.answered
          { s with cab := { s.cab with outcomes := newer } } 0x14 p (0x00 :: enc8 (older.length + 1)))
        ∧ 1 ≤ older.length + 1 ∧ older.length + 1 ≤ 16

/-! ## Notices -/

/-- Raising a class sets its pending mark and clears its reported mark, whatever they were, and touches no other class (R173). -/
def Obligations.RaiseMarksPendingAndUnreported : Prop :=
  ∀ (n : Notices) (c : NoticeClass) (k : Nat), k < 13 →
    ((n.raise c).pending.getLsbD k = true ↔ n.pending.getLsbD k = true ∨ k = c.index)
    ∧ ((n.raise c).reported.getLsbD k = true ↔ n.reported.getLsbD k = true ∧ k ≠ c.index)
    ∧ (n.raise c).enabled = n.enabled
    ∧ ((n.raise c).attention = true ↔ ∃ j, j < 13 ∧ (n.raise c).pending.getLsbD j = true ∧ n.enabled.getLsbD j = true)

/-- ACK_NOTICES clears, of the classes it names, those both pending and reported, and no other mark; a set outside the thirteen classes is
refused (R176). The reply's payload is kept in the port until REPLY_FORMED (log 3, log 4). -/
def Obligations.AcknowledgeClearsOnlyWhatWasReported : Prop :=
  ∀ (s : State) (p : List Byte), s.portFree → p.length = 2 →
    let n := s.cab.notices
    (8192 ≤ u16At p 0 → exec (.ackNotices p) s = .next (s.answered 0x11 p [0x04]))
    ∧ (u16At p 0 < 8192 →
      let set : NoticeSet := BitVec.ofNat 13 (u16At p 0)
      ∃ m : Notices,
        exec (.ackNotices p) s = .next (State.answered { s with cab := { s.cab with notices := m } } 0x11 p
          (0x00 :: (enc16 (set &&& n.pending &&& n.reported).toNat ++ enc16 m.pending.toNat)))
        ∧ m.enabled = n.enabled
        ∧ (∀ k, k < 13 →
          if set.getLsbD k = true ∧ n.pending.getLsbD k = true ∧ n.reported.getLsbD k = true then
            m.pending.getLsbD k = false ∧ m.reported.getLsbD k = false
          else m.pending.getLsbD k = n.pending.getLsbD k ∧ m.reported.getLsbD k = n.reported.getLsbD k)
        ∧ (m.attention = true ↔ ∃ k, k < 13 ∧ m.pending.getLsbD k = true ∧ m.enabled.getLsbD k = true))

/-- SET_NOTICE_ENABLE replaces the enabled set, the attention line following; a set outside the thirteen classes is refused; READ_NOTICES
answers both sets and marks the pending classes reported (R175, R177). The reply's payload is kept in the port until REPLY_FORMED (log 3, log 4). -/
def Obligations.EnableReplacesTheEnabledSet : Prop :=
  ∀ (s : State) (p : List Byte), s.portFree → p.length = 2 →
    (8192 ≤ u16At p 0 → exec (.setNoticeEnable p) s = .next (s.answered 0x12 p [0x04]))
    ∧ (u16At p 0 < 8192 →
      let set : NoticeSet := BitVec.ofNat 13 (u16At p 0)
      ∃ b : Bool,
        exec (.setNoticeEnable p) s = .next (State.answered
          { s with cab := { s.cab with notices := { s.cab.notices with enabled := set, attention := b } } }
          0x12 p (0x00 :: enc16 (u16At p 0)))
        ∧ (b = true ↔ ∃ k, k < 13 ∧ s.cab.notices.pending.getLsbD k = true ∧ set.getLsbD k = true))
    ∧ exec (.readNotices []) s = .next (State.answered
      { s with cab := { s.cab with notices := { s.cab.notices with reported := s.cab.notices.pending } } }
      0x10 [] (0x00 :: (enc16 s.cab.notices.pending.toNat ++ enc16 s.cab.notices.enabled.toNat)))

/-! ## Shedding, quiesce, restart -/

/-- A filtered assertion of the load-shed line and a QUIESCE in NONE each carry out the stop release; the assertion sets the latch and
raises SHED_ENTERED, the QUIESCE makes the completion test (R159, R161, R165, R166). -/
def Obligations.ShedAndQuiesceStopEverySession : Prop :=
  ∀ s : State,
    (s.supply = .main → s.shed.filter.asserted = false →
      ∃ t, exec .shedLineAsserted s = .next t ∧ StopReleased s t
        ∧ t.shed = { filter := { asserted := true, run := 0 }, latch := true }
        ∧ t.cab.notices = s.cab.notices.raise .shedEntered ∧ t.cab.quiesce = s.cab.quiesce
        ∧ t.cab.book = s.cab.book ∧ t.cab.outcomes = s.cab.outcomes ∧ t.port = s.port ∧ t.clock = s.clock
        ∧ t.arbiter = s.arbiter ∧ t.planner = s.planner ∧ t.profiles = s.profiles)
    ∧ (s.portFree → s.cab.quiesce = .none →
      ∃ t, exec (.quiesce []) s = .next t ∧ StopReleased s t
        ∧ ((∀ o, (s.cab.outlet o).holdsGrant = false) →
          t.cab.quiesce = .quiesced ∧ t.cab.notices = s.cab.notices.raise .quiesceDone
            ∧ t.port = (s.answered 0x15 [] ([0x00] ++ encMark s.shed.latch ++ encMark s.shed.filter.asserted ++ [0x02])).port)
        ∧ ((∃ o, (s.cab.outlet o).holdsGrant = true) →
          t.cab.quiesce = .quiescing ∧ t.cab.notices = s.cab.notices
            ∧ t.port = (s.answered 0x15 [] ([0x00] ++ encMark s.shed.latch ++ encMark s.shed.filter.asserted ++ [0x01])).port)
        ∧ t.shed = s.shed ∧ t.cab.book = s.cab.book ∧ t.cab.outcomes = s.cab.outcomes ∧ t.clock = s.clock
        ∧ t.arbiter = s.arbiter ∧ t.planner = s.planner ∧ t.profiles = s.profiles)

/-- RESUME is refused SHED_ACTIVE while the filtered level is asserted; else it clears the latch and ends any quiesce, and changes nothing
else. A QUIESCE in QUIESCING or QUIESCED changes nothing. The deassertion of the line leaves the latch (R160, R163, R165). -/
def Obligations.ResumeEndsTheStopOnlyWhenTheLineIsReleased : Prop :=
  ∀ s : State,
    (s.portFree → s.shed.filter.asserted = true →
      exec (.resume []) s = .next (s.answered 0x16 [] ([0x0B] ++ encMark s.shed.latch ++ [0x01] ++ [quiesceCode s.cab.quiesce])))
    ∧ (s.portFree → s.shed.filter.asserted = false →
      exec (.resume []) s = .next (State.answered
        { s with shed := { s.shed with latch := false }, cab := { s.cab with quiesce := .none } } 0x16 [] [0x00, 0x00, 0x00, 0x00]))
    ∧ (s.portFree → s.cab.quiesce ≠ .none →
      exec (.quiesce []) s = .next (s.answered 0x15 []
        ([0x00] ++ encMark s.shed.latch ++ encMark s.shed.filter.asserted ++ [quiesceCode s.cab.quiesce])))
    ∧ (s.supply = .main → s.shed.filter.asserted = true →
      exec .shedLineDeasserted s = .next
        { s with shed := { filter := { asserted := false, run := 0 }, latch := s.shed.latch }, cab := s.cab.raise .shedReleased })

/-- RESTART's processing forms its reply and nothing else; at that reply's end every session is EMPTY, every lead BOOKED and unbound, every
grant zero without a record, the residual leases are set and the timer starts again, while the book, the outcomes, the profiles, the
settings, the latch and the clock stand; a held request is then processed at once, against the restarted state (R29, R111, R137, R169, R189,
R197, R198). A boundary that is due and not taken yet is dropped (log 6). -/
def Obligations.RestartTakesEffectAtTheEndOfItsReply : Prop :=
  ∀ s : State,
    (s.portFree → exec (.restart []) s = .next (s.answered 0x17 [] [0x00]))
    ∧ (∀ f ms, s.supply = .main → s.port.sending = some f → f.isReply = true →
      s.port.current = some { request := { ty := 0x17, payload := [] }, phase := .replying } →
      ∃ t : State,
        (s.port.held = none → exec (.frameSent ms) s = .next t)
        ∧ (∀ r c, s.port.held = some r → requestOf c = some r → requestTime c ≤ max s.ms ms → exec (.frameSent ms) s = exec c t)
        ∧ t.supply = .main ∧ t.ms = max s.ms ms
        ∧ t.port = { s.port with sending := s.port.outbox.head?, outbox := s.port.outbox.tail, current := none, held := none }
        ∧ (∀ o, t.cab.session o = Session.cleared ∧ (t.cab.outlet o).plug = { asserted := false, run := 0 }
          ∧ (t.cab.outlet o).grants = { (s.cab.outlet o).grants with released := 0, deferred := none, mark := none }
          ∧ (t.cab.outlet o).residual =
            (match (s.cab.session o).acked with
            | some a => if 0 < a.watts then (s.cab.session o).lease else 0
            | none => 0))
        ∧ t.cab.book = s.cab.book.map (fun e => { e with state := .booked, plan := none, bound := none })
        ∧ t.arbiter = { s.arbiter with secondsLeft := s.arbiter.activeInterval, boundaryDue := false }
        ∧ t.cab.quiesce = (if s.cab.quiesce = .quiescing ∧ ∀ o, (t.cab.outlet o).residual = 0 then .quiesced else s.cab.quiesce)
        ∧ t.cab.notices = (if s.cab.quiesce = .quiescing ∧ ∀ o, (t.cab.outlet o).residual = 0 then
            s.cab.notices.raise .quiesceDone else s.cab.notices)
        ∧ t.cab.outcomes = s.cab.outcomes ∧ t.cab.nextSerial = s.cab.nextSerial ∧ t.shed = s.shed ∧ t.clock = s.clock
        ∧ t.planner = s.planner ∧ t.profiles = s.profiles)

/-! ## The port's events -/

/-- The receiver's table (R182 to R184): what each byte does in each state, to a frame's judgement by its CRC. The request that a frame
completes is processed at once by a free port, as its command processes it, and held behind another (R185; log 3). A frame in progress is
abandoned and counted by a byte that comes more than 10 ms after the last, which is then taken in HUNT, by a framing error, and by the expiry
of a gap that no byte has come before; in HUNT these abandon nothing (R183, R190; log 9). -/
def Obligations.ReceiverFollowsItsTable : Prop :=
  (∀ (s : State) (b : Byte) (ms : Nat), s.supply = .main →
      let now := max s.ms ms
      let heard := fun r : Receiver => ({ s with ms := now, port := { s.port with receiver := r, lastByteAt := now } } : State)
      let abandoned := fun r : Receiver => ({ s with
        ms := now, port := { s.port with receiver := r, lastByteAt := now, discards := min 65535 (s.port.discards + 1) } } : State)
      (s.port.receiver = .hunt → exec (.siteByteReceived b ms) s = .next (if b = 0xC3 then heard .length else heard .hunt))
      ∧ (s.port.receiver ≠ .hunt → s.port.lastByteAt + 10 < now →
        exec (.siteByteReceived b ms) s = .next (if b = 0xC3 then abandoned .length else abandoned .hunt))
      ∧ (now ≤ s.port.lastByteAt + 10 →
        (s.port.receiver = .length →
          exec (.siteByteReceived b ms) s = .next (if 1 ≤ b.toNat ∧ b.toNat ≤ 250 then heard (.body b []) else abandoned .hunt))
        ∧ (∀ len bytes, s.port.receiver = .body len bytes →
          exec (.siteByteReceived b ms) s = .next
            (if bytes.length + 1 < len.toNat then heard (.body len (bytes ++ [b])) else heard (.check len (bytes ++ [b]) none)))
        ∧ (∀ len body, s.port.receiver = .check len body none →
          exec (.siteByteReceived b ms) s = .next (heard (.check len body (some b))))
        ∧ (∀ len ty payload high, s.port.receiver = .check len (ty :: payload) (some high) →
          let r : Request := { ty := ty, payload := payload }
          (crc16 (len :: ty :: payload) ≠ high ++ b → exec (.siteByteReceived b ms) s = .next (abandoned .hunt))
          ∧ (crc16 (len :: ty :: payload) = high ++ b →
            (∀ c, requestOf c = some r → requestTime c ≤ now → exec (.siteByteReceived b ms) s = exec c (heard .hunt))
            ∧ (s.port.current = none → ∃ t reply, exec (.siteByteReceived b ms) s = .next t
              ∧ t.port.current = some { request := r, phase := .processed reply } ∧ t.port.receiver = .hunt)
            ∧ (s.port.current ≠ none → s.port.held = none →
              exec (.siteByteReceived b ms) s =
                .next { heard .hunt with port := { s.port with receiver := .hunt, lastByteAt := now, held := some r } })))))
  ∧ (∀ (s : State) (ms : Nat), s.supply = .main →
      (s.port.receiver = .hunt → exec .framingError s = .next s ∧ exec (.frameGapExpiry ms) s = .next (s.atTime ms))
      ∧ (s.port.receiver ≠ .hunt →
        let abandoned : State := { s with port := { s.port with receiver := .hunt, discards := min 65535 (s.port.discards + 1) } }
        exec .framingError s = .next abandoned
        ∧ exec (.frameGapExpiry ms) s =
          .next (if s.port.lastByteAt + 10 ≤ max s.ms ms then abandoned.atTime ms else s.atTime ms)))

/-- Every request laid out as a frame is received as that request: the bytes of the frame, the first arriving in HUNT and each other at most
10 ms after the one before, hand the port exactly the TYPE and payload they carry, which it takes at once (R182 to R185, R200). Every frame of
an outlet link is likewise received whole, with the kind and payload it carries, whatever bytes but a SYNC come before it and whatever bytes
after (R116, R204). -/
def Obligations.EveryFrameIsReceivedWhole : Prop :=
  (∀ (s : State) (ty : Byte) (payload : List Byte) (time : Nat → Nat), s.supply = .main → s.port.receiver = .hunt →
    payload.length ≤ 249 → s.ms ≤ time 0 → (∀ i, time i ≤ time (i + 1) ∧ time (i + 1) ≤ time i + 10) →
    let frame := siteFrame ty payload
    let last := time (payload.length + 4)
    frame.length = payload.length + 5
    ∧ Host.Core.run Sys2Proof.core frame.length
        ({ s with pending := frame.zipIdx.map fun b => Instr.siteByteReceived b.1 (time b.2) } : State)
      = .next (State.takeRequest
        { s with pending := [], ms := last, port := { s.port with receiver := .hunt, lastByteAt := last } }
        { ty := ty, payload := payload }))
  ∧ ∀ (noise payload rest : List Byte) (kind : Byte), 0xA5 ∉ noise → payload.length ≤ 16 →
    heardFrame (noise ++ outletFrame kind payload ++ rest) = .frame kind payload

/-- A reply takes its place behind the frames formed before it and is sent at once by an IDLE transmitter (R187, R188). At the end of a frame
the oldest frame waiting follows; at the end of a reply the answer ends too, the port is free, and a held request is processed at once, as
its command processes it (R189). The end of a RESTART's answer is stated by RestartTakesEffectAtTheEndOfItsReply. That PROCESSING lasts from
the request's effect to REPLY_FORMED is the model's choice (log 4). -/
def Obligations.RepliesGoOutInTheOrderFormed : Prop :=
  (∀ (s : State) (r : Request) (reply : List Byte), s.supply = .main →
      s.port.current = some { request := r, phase := .processed reply } →
      let f : OutFrame := { isReply := true, ty := r.ty + 0x80, payload := reply }
      (s.port.sending = none →
        exec .replyFormed s = .next { s with port := { s.port with
          current := some { request := r, phase := .replying }, sending := some f } })
      ∧ ∀ g, s.port.sending = some g →
        exec .replyFormed s = .next { s with port := { s.port with
          current := some { request := r, phase := .replying }, outbox := s.port.outbox ++ [f] } })
  ∧ (∀ (s : State) (f : OutFrame) (ms : Nat), s.supply = .main → s.port.sending = some f →
      (f.isReply = false →
        exec (.frameSent ms) s = .next
          { s.atTime ms with port := { s.port with sending := s.port.outbox.head?, outbox := s.port.outbox.tail } })
      ∧ (f.isReply = true → (∀ cur, s.port.current = some cur → cur.request.ty ≠ 0x17) →
        let freed : State := { s.atTime ms with
          port := { s.port with sending := s.port.outbox.head?, outbox := s.port.outbox.tail, current := none, held := none } }
        (s.port.held = none → exec (.frameSent ms) s = .next freed)
        ∧ (∀ r c, s.port.held = some r → requestOf c = some r → requestTime c ≤ max s.ms ms →
          exec (.frameSent ms) s = exec c freed)))

/-! ## Time -/

/-- A source second reaches every count: the calendar, u, the interval timer, the outdoor age, each lease and each residual lease
(R43, R92, R107, R138, R141, R144, R149, R169). That expiries become due and are taken by commands of their own, or before the next second,
is the model's choice (log 6), and so is the order of one second's events (log 7). -/
def Obligations.SourceSecondReachesEveryCount : Prop :=
  ∀ s : State, s.nothingDue →
    ∃ t, exec (.sourceSecond .calendarFirst) s = .next t
      ∧ t.clock = { s.clock with
          depotTime := if s.clock.isSet = true ∧ s.clock.depotTime < 3155759999 then s.clock.depotTime + 1 else s.clock.depotTime
          calendar := if s.clock.isSet = true ∧ s.clock.depotTime + 1 = 3155759999 then .unset else s.clock.calendar
          u := if s.clock.source = .internal ∧ s.clock.calendar = .drifting then min 4294967295 (s.clock.u + 1) else s.clock.u }
      ∧ t.arbiter = { s.arbiter with
          secondsLeft := if s.arbiter.secondsLeft ≤ 1 then s.arbiter.secondsLeft else s.arbiter.secondsLeft - 1
          boundaryDue := decide (s.arbiter.secondsLeft ≤ 1) }
      ∧ t.planner = { s.planner with
          outdoorAge := if s.planner.outdoorState = .unknown then s.planner.outdoorAge else min 65535 (s.planner.outdoorAge + 1) }
      ∧ (∀ o, (t.cab.session o).lease = (s.cab.session o).lease - 1
        ∧ ((t.cab.session o).leaseDue = .due ↔ (s.cab.session o).lease = 1)
        ∧ (t.cab.outlet o).residual = (s.cab.outlet o).residual - 1
        ∧ ((t.cab.outlet o).residualDue = true ↔ (s.cab.outlet o).residual = 1)
        ∧ (t.cab.session o).state = (s.cab.session o).state ∧ (t.cab.session o).acked = (s.cab.session o).acked)
      ∧ t.profiles = s.profiles ∧ t.shed = s.shed ∧ t.port = s.port ∧ t.supply = s.supply ∧ t.ms = s.ms

/-- The second that reaches 2099-12-31 23:59:59 makes the calendar UNSET, raises CLOCK_UNSET, and leaves no lead and no next departure
(R27, R144). -/
def Obligations.EndOfRangeUnsetsTheCalendarAndTheBook : Prop :=
  ∀ s : State, s.nothingDue → s.clock.isSet = true → s.clock.depotTime = 3155759998 →
    ∃ t, exec (.sourceSecond .calendarFirst) s = .next t
      ∧ t.clock.depotTime = 3155759999 ∧ t.clock.calendar = .unset
      ∧ t.cab.notices.pending.getLsbD 11 = true
      ∧ ∀ e ∈ t.cab.book, e.next = none ∧ e.state = .booked ∧ e.plan = none

/-- An entry that is unbound at its departure second, and holds no snapshot, ends NOT_PRESENT with readiness ABSENT and with what its
execution record holds; a ONE_SHOT entry leaves the book, and a RECURRING one goes on to its next occurrence, or leaves when there is none
(R8, R73, R75, R80, R83 to R85). Stated for the only entry with an event at that second; the other entries and every grant stand, but for
the second of defrost that each WARMING entry spends (R67). -/
def Obligations.UnboundDepartureEndsNotPresent : Prop :=
  ∀ (s : State) (e : Entry) (d : Nat), s.SecondOf e d → e.next = some d → e.bound = none → e.snapshot = none →
    ∃ t, exec (.sourceSecond .calendarFirst) s = .next t
      ∧ Appended s t (e.endRecord s.cab.nextSerial .notPresent .absent d)
      ∧ (∀ b, e.booking = .oneShot b → t.cab.entry? e.number = none)
      ∧ (∀ q, e.booking = .recurring q → t.cab.entry? e.number =
        (s.cab.findOccurrence e q d).map fun u => { e with next := some u, exec := none, occurrenceOutlet := none, unreachable := false })
      ∧ (∀ n, n ≠ e.number → t.cab.entry? n = (s.cab.entry? n).map Entry.counted)
      ∧ ∀ o, (t.cab.outlet o).grants = (s.cab.outlet o).grants

/-- At its departure second a lead takes its snapshot into its execution record and goes on into grace (R65, R67, R73, R74). At its grace
expiry an entry with a snapshot ends GRACE_EXPIRED with the readiness of that snapshot, bound or not; a lead with grace 0 does both at one
second (R77, R83 to R85). A ONE_SHOT entry leaves the book and a RECURRING one re-arms (R8, R80); the grant of an active lead is zeroed by a
GRANT of 0 (R81). Stated for the only entry with an event at that second, in a lawful book: the
lead of an outlet is its earliest bound entry (R20). -/
def Obligations.LeadTakesItsSnapshotAndGraceEndsIt : Prop :=
  ∀ (s : State) (e : Entry) (d : Nat), s.SecondOf e d → DepartureLaws s →
    (∀ o, e.next = some d → e.bound = some o → e.isLead = true → e.snapshot = none →
      let gone : Entry := { e with exec := some { e.counted.execution with snapshot := some (e.snapshotOn (s.cab.session o)) } }
      (0 < e.grace → ∃ t, exec (.sourceSecond .calendarFirst) s = .next t
        ∧ t.cab.entry? e.number = some gone
        ∧ (∀ n, n ≠ e.number → t.cab.entry? n = (s.cab.entry? n).map Entry.counted)
        ∧ t.cab.outcomes = s.cab.outcomes ∧ ∀ p, (t.cab.outlet p).grants = (s.cab.outlet p).grants)
      ∧ (e.grace = 0 → ∃ t, exec (.sourceSecond .calendarFirst) s = .next t
        ∧ Appended s t (gone.endRecord s.cab.nextSerial .graceExpired (if e.state = .holding then .ready else .short) d)
        ∧ ∀ b, e.booking = .oneShot b → t.cab.entry? e.number = none))
    ∧ ∀ dep n, e.next = some dep → dep + e.grace * 60 = d → e.snapshot = some n →
      ∃ t, exec (.sourceSecond .calendarFirst) s = .next t
        ∧ Appended s t (e.endRecord s.cab.nextSerial .graceExpired n.readiness dep)
        ∧ (∀ b, e.booking = .oneShot b → t.cab.entry? e.number = none)
        ∧ (∀ q, e.booking = .recurring q →
          (s.cab.findOccurrence e q d = none → t.cab.entry? e.number = none)
          ∧ ∀ u, s.cab.findOccurrence e q d = some u → ∃ e', t.cab.entry? e.number = some e' ∧ e'.next = some u ∧ e'.exec = none
            ∧ e'.bound = e.bound ∧ e'.occurrenceOutlet = e.bound)
        ∧ (∀ p, (t.cab.outlet p).grants =
          if e.bound = some p ∧ e.isActive = true then
            { released := 0, lastSeq := (s.cab.outlet p).grants.nextSeq, nextSeq := (s.cab.outlet p).grants.nextSeq + 1
              deferred := none, mark := (s.cab.outlet p).grants.mark }
          else (s.cab.outlet p).grants)
        ∧ ∀ p, e.bound = some p → e.isActive = true → ∃ r ∈ (t.cab.session p).queue, r.stale = false
          ∧ r.body = .grant (s.cab.outlet p).grants.nextSeq 0 (2 * s.arbiter.activeInterval + 5)

/-- The judgement of a supervisor window: a pass counts up to 4 and returns the source to the crystal at the fourth; a failure on the crystal
switches to the internal reference, makes a TRUE calendar DRIFTING, raises CLOCK_FALLBACK and delivers the seconds recovered, one after
another; on the internal reference it only clears the count (R145 to R148). The count itself is judged, and kept saturated (log 36); each
recovered second carries its own order, and their number is the command's (log 7, log 24). -/
def Obligations.WindowsDecideTheSource : Prop :=
  ∀ (s : State) (edges : Nat) (recovered : List SecondOrder), s.supply = .main →
    let kept : Option (BitVec 16) := some (BitVec.ofNat 16 (min 65535 edges))
    ((63570 ≤ edges ∧ edges ≤ 67502) →
      exec (.windowEnd edges recovered) s = .next { s with clock := { s.clock with
        lastWindow := kept, passCount := min 4 (s.clock.passCount + 1)
        source := if 3 ≤ s.clock.passCount then .crystal else s.clock.source } })
    ∧ (¬(63570 ≤ edges ∧ edges ≤ 67502) →
      (s.clock.source = .internal →
        exec (.windowEnd edges recovered) s = .next { s with clock := { s.clock with lastWindow := kept, passCount := 0 } })
      ∧ (s.clock.source = .crystal →
        let switched : State := { s with
          clock := { s.clock with
            lastWindow := kept, passCount := 0, source := .internal
            calendar := if s.clock.calendar = .trueTime then .drifting else s.clock.calendar }
          cab := s.cab.raise .clockFallback }
        exec (.windowEnd edges recovered) s =
          Host.Core.run Sys2Proof.core recovered.length
            ({ switched with pending := recovered.map Instr.sourceSecond ++ s.pending } : State)))

/-! ## Grant boundaries -/

/-- A grant boundary transfers the pending settings and starts the timer with the interval now active, and leaves alone what is not the
Arbiter's or the Book's (R92, R93). While power is stopped it leaves every grant zero and still renews the zero: each IDENTIFIED or STALE
session has a live GRANT of 0 in its queue (R94, R162). -/
def Obligations.BoundaryTransfersAndStartsTheTimer : Prop :=
  (∀ s : State, s.supply = .main → s.arbiter.boundaryDue = true →
      ∃ t, exec .grantBoundary s = .next t
        ∧ t.arbiter =
          { pendingAllowance := s.arbiter.pendingAllowance, activeAllowance := s.arbiter.pendingAllowance
            pendingInterval := s.arbiter.pendingInterval, activeInterval := s.arbiter.pendingInterval
            secondsLeft := s.arbiter.pendingInterval, boundaryDue := false }
        ∧ t.clock = s.clock ∧ t.planner = s.planner ∧ t.profiles = s.profiles ∧ t.shed = s.shed ∧ t.port = s.port
        ∧ t.supply = s.supply ∧ t.ms = s.ms ∧ t.cab.quiesce = s.cab.quiesce
        ∧ ∀ o, (t.cab.outlet o).plug = (s.cab.outlet o).plug ∧ (t.cab.outlet o).residual = (s.cab.outlet o).residual
          ∧ { (t.cab.session o).butQueue with leaseDue := .none } = { (s.cab.session o).butQueue with leaseDue := .none })
  ∧ (∀ s : State, s.supply = .main → s.arbiter.boundaryDue = true → AllowanceLaw s → s.powerStopped = true →
      ∃ t, exec .grantBoundary s = .next t
        ∧ ∀ o, (t.cab.outlet o).grants.released = 0 ∧ (t.cab.outlet o).grants.deferred = none
          ∧ ((s.cab.session o).takesGrants = true →
            ∃ r ∈ (t.cab.session o).queue, r.stale = false ∧ ∃ q, r.body = .grant q 0 (2 * s.arbiter.pendingInterval + 5)))

/-- What a running boundary decides. From the active settings as transferred, it discards the deferred raises, plans every lead again, makes
the supersession and start tests, and releases the allocation of the active allowance to the ranked candidates (R93 to R97, R101, R104). With no
lead in grace, a WAITING lead whose new plan starts before the boundary's time plus the interval goes to WARMING, and any other stays (R66).
A lead in grace whose follower's trial plan starts by then ends SUPERSEDED, and the follower warms with that plan; otherwise both stay as
they are (R23). The candidates are the outlets with an IDENTIFIED session and an active lead, with its demand, tier and key, and none while
power is stopped (R94, R95). -/
def Obligations.BoundaryStartsSupersedesAndShares : Prop :=
  (∀ s : State, s.supply = .main → s.arbiter.boundaryDue = true →
    let env : Env := { clock := s.clock, planner := s.planner, profiles := s.profiles, interval := s.arbiter.pendingInterval }
    let now := s.clock.depotTime
    ∃ t, exec .grantBoundary s = .next t
      ∧ (let before : Cabinet :=
          { s.cab with outlets := s.cab.outlets.map fun out => { out with grants := { out.grants with deferred := none } } }
        let ready := ((before.replanAll env).supersedeAll env).startTests env
        t.cab = ready.releaseDecision env
          (allocate (rankCandidates (ready.candidates env (s.shed.latch || s.cab.quiesce != .none))) s.arbiter.pendingAllowance))
      ∧ (DepartureLaws s → (∀ x ∈ s.cab.book, x.isLead = true → x.snapshot = none) →
        ∀ e ∈ s.cab.book, ∀ o p, e.state = .waiting → e.bound = some o → s.cab.planFor env o e = some p →
          ∃ e', t.cab.entry? e.number = some e' ∧ e'.plan = some p
            ∧ (p.start < now + s.arbiter.pendingInterval → e'.state = .warming
              ∧ ∃ x, e'.exec = some x ∧ x.warmingBegan = some ((e.exec.bind Execution.warmingBegan).getD now))
            ∧ (now + s.arbiter.pendingInterval ≤ p.start → e'.state = .waiting))
      ∧ (DepartureLaws s → s.cab.outcomes.length ≤ 8 →
        ∀ e ∈ s.cab.book, ∀ f ∈ s.cab.book, ∀ o d y n p,
          e.bound = some o → e.isLead = true → e.snapshot = some n → e.next = some d →
          f.bound = some o → f.number ≠ e.number → f.next = some y →
          (∀ g ∈ s.cab.book, g.bound = some o → g.number ≠ e.number → ∀ z, g.next = some z → y ≤ z) →
          s.cab.planFor env o f = some p →
          (p.start < now + s.arbiter.pendingInterval →
            (∃ r ∈ t.cab.outcomes, r.number = e.number ∧ r.tag = e.tag ∧ r.cause = .superseded ∧ r.readiness = n.readiness
              ∧ r.scheduled = d)
            ∧ ∀ b, e.booking = .oneShot b → t.cab.entry? e.number = none
              ∧ ∃ f', t.cab.entry? f.number = some f' ∧ f'.state = .warming ∧ f'.plan = some p ∧ f'.next = f.next)
          ∧ (now + s.arbiter.pendingInterval ≤ p.start →
            t.cab.entry? f.number = some f ∧ ∃ e', t.cab.entry? e.number = some e' ∧ e'.next = e.next ∧ e'.snapshot = e.snapshot)))
  ∧ ∀ (env : Env) (c : Cabinet) (k : Candidate), k ∉ c.candidates env true
    ∧ (k ∈ c.candidates env false ↔ ∃ e p, (c.session k.outlet).state = .identified ∧ c.leadOf k.outlet = some e
      ∧ (e.state = .warming ∨ e.state = .holding) ∧ c.profileOf env k.outlet = some p ∧ k.minDraw = p.minDraw
      ∧ k.demand = ((e.plan.map fun x => if e.state = .warming then x.fullDraw else x.holdPower).getD 0)
      ∧ (if e.snapshot ≠ none then k.tier = 3 ∧ k.key = ((e.next.getD 0 : Nat) : Int)
        else if e.state = .holding then k.tier = 1 ∧ k.key = ((e.next.getD 0 : Nat) : Int)
        else k.tier = 2 ∧ k.key = ((e.plan.map Plan.slack).getD 0)))

/-- The allocation gives every candidate in turn the smaller of its demand and what is left, or nothing where that is below its least useful
draw, and goes on (R96); its grants sum to at most the allowance (R97). The candidates are ranked by tier, then by the key of the tier, then
by outlet number, none lost and none added (R95). -/
def Obligations.AllocationServesEachCandidateInTurn : Prop :=
  (∀ (l : List Candidate) (allowance : Nat),
      (allocate l allowance).map Prod.fst = l.map Candidate.outlet
      ∧ ((allocate l allowance).map Prod.snd).sum ≤ allowance
      ∧ ∀ before k after, l = before ++ k :: after →
        let left := allowance - ((allocate before allowance).map Prod.snd).sum
        (allocate l allowance)[before.length]? =
          some (k.outlet, if k.minDraw ≤ min k.demand left then min k.demand left else 0))
  ∧ (∀ l : List Candidate, (rankCandidates l).Perm l ∧
      (rankCandidates l).Pairwise fun a b =>
        a.tier < b.tier ∨ (a.tier = b.tier ∧ (a.key < b.key ∨ (a.key = b.key ∧ a.outlet.val ≤ b.outlet.val))))

/-- Decrease-first release: a grant no higher than the released one is released at once; a higher one waits as a deferred raise until no
outlet is in the reduction-pending set, and when the set forms empty it is released before the boundary ends (R101 to R103). -/
def Obligations.DecisionIsReleasedDecreaseFirst : Prop :=
  ∀ (env : Env) (c : Cabinet) (decision : List (OutletNo × Nat)),
    (∀ o, (c.outlet o).grants.deferred = none) →
    let inSet := fun p : OutletNo => (c.session p).takesGrants = true
      ∧ min (newGrant decision p) (c.outlet p).grants.released < (c.session p).ackedWatts
    let t := c.releaseDecision env decision
    ∀ o, (c.session o).takesGrants = true →
      ((t.outlet o).grants.mark.isSome = true ↔ inSet o)
      ∧ (newGrant decision o ≤ (c.outlet o).grants.released →
        (t.outlet o).grants.released = newGrant decision o ∧ (t.outlet o).grants.deferred = none
          ∧ (t.outlet o).grants.lastSeq = (c.outlet o).grants.nextSeq)
      ∧ ((c.outlet o).grants.released < newGrant decision o → (c.session o).state = .identified →
        ((∃ p, inSet p) → (t.outlet o).grants.released = (c.outlet o).grants.released
          ∧ (t.outlet o).grants.deferred = some (newGrant decision o))
        ∧ ((∀ p, ¬ inSet p) → (t.outlet o).grants.released = newGrant decision o ∧ (t.outlet o).grants.deferred = none))

/-- A lease that runs out takes its outlet from the reduction-pending set; the last outlet to leave releases every deferred raise, and while
another stays none is released (R103, R107). A residual lease that runs out is an event of the completion test: the quiesce completes when no
outlet holds a grant any more (R164, R166, R169). -/
def Obligations.ExpiredLeasesFreeTheRaisesAndTheQuiesce : Prop :=
  (∀ (s : State) (o : OutletNo) (m : Seq), s.supply = .main → (s.cab.session o).leaseDue = .due →
    (s.cab.outlet o).grants.mark = some m →
    ∃ t, exec (.leaseExpiry o) s = .next t
      ∧ (t.cab.outlet o).grants.mark = none ∧ (t.cab.session o).leaseDue = .none
      ∧ (∀ p, (t.cab.session p).acked = (s.cab.session p).acked ∧ (t.cab.session p).lease = (s.cab.session p).lease)
      ∧ ((∀ p, p ≠ o → (s.cab.outlet p).grants.mark = none) →
        ∀ p, (t.cab.outlet p).grants.deferred = none
          ∧ (t.cab.outlet p).grants.released =
            (s.cab.outlet p).grants.deferred.getD (s.cab.outlet p).grants.released)
      ∧ ((∃ p, p ≠ o ∧ (s.cab.outlet p).grants.mark ≠ none) →
        ∀ p, (t.cab.outlet p).grants.deferred = (s.cab.outlet p).grants.deferred
          ∧ (t.cab.outlet p).grants.released = (s.cab.outlet p).grants.released)
      ∧ t.cab.book = s.cab.book ∧ t.cab.outcomes = s.cab.outcomes)
  ∧ ∀ (s : State) (o : OutletNo), s.supply = .main → (s.cab.outlet o).residualDue = true →
    let c := s.cab.updOutlet o fun out => { out with residualDue := false }
    exec (.residualLeaseExpiry o) s = .next
      (if s.cab.quiesce = .quiescing ∧ ∀ p, (s.cab.outlet p).holdsGrant = false then
        { s with cab := { c with quiesce := .quiesced, notices := s.cab.notices.raise .quiesceDone } }
      else { s with cab := c })

/-! ## Lines -/

/-- The third consecutive differing sample of a line makes its level the filtered level with all that follows from that; any sample before
only counts, and one that shows the level held ends the run (R112, R158). A plug seen on an EMPTY outlet begins a session: AWAITING_HELLO
with a POLL sent at once (R113, R114). -/
def Obligations.LinesAreFilteredAndAPlugBeginsASession : Prop :=
  (∀ (s : State) (o : OutletNo) (ms : Nat) (level : Bool), s.supply = .main →
    (level = (s.cab.outlet o).plug.asserted →
      exec (.plugLineSample o ms level) s = .next
        { s.atTime ms with cab := s.cab.updOutlet o fun out => { out with plug := { out.plug with run := 0 } } })
    ∧ (level ≠ (s.cab.outlet o).plug.asserted → (s.cab.outlet o).plug.run < 2 →
      exec (.plugLineSample o ms level) s = .next
        { s.atTime ms with cab := s.cab.updOutlet o fun out => { out with plug := { out.plug with run := out.plug.run + 1 } } })
    ∧ (level ≠ (s.cab.outlet o).plug.asserted → 2 ≤ (s.cab.outlet o).plug.run →
      exec (.plugLineSample o ms level) s =
        if level then exec (.plugAsserted o ms) s else exec (.plugReleased o) (s.atTime ms))
    ∧ (level = s.shed.filter.asserted →
      exec (.shedLineSample level) s = .next { s with shed := { s.shed with filter := { s.shed.filter with run := 0 } } })
    ∧ (level ≠ s.shed.filter.asserted → s.shed.filter.run < 2 →
      exec (.shedLineSample level) s = .next
        { s with shed := { s.shed with filter := { s.shed.filter with run := s.shed.filter.run + 1 } } })
    ∧ (level ≠ s.shed.filter.asserted → 2 ≤ s.shed.filter.run →
      exec (.shedLineSample level) s = if level then exec .shedLineAsserted s else exec .shedLineDeasserted s))
  ∧ ∀ (s : State) (o : OutletNo) (ms : Nat), s.supply = .main → (s.cab.outlet o).plug.asserted = false →
    (s.cab.session o).state = .empty →
    exec (.plugAsserted o ms) s = .next
      { s.atTime ms with cab := s.cab.updOutlet o fun out =>
          { out with
            plug := { asserted := true, run := 0 }
            session := { Session.cleared with
              state := .awaitingHello, channel := .inFlight false (outletFrame 0x10 []), lastPoll := some (max s.ms ms) } } }

/-- The release of a plug and a BYE, in STALE from IDENTIFIED too, end the session, as one whole: EMPTY with nothing kept, or CLOSED with what
is kept for reading; the grant is zero without a record, and nothing is bound to the outlet (R22, R105, R113, R129 to R131). -/
def Obligations.SessionEndsLeaveNothingGranted : Prop :=
  ∀ (s : State) (o : OutletNo), s.supply = .main → BindingLaw s →
    ((s.cab.outlet o).plug.asserted = true → (s.cab.session o).state ≠ .empty →
      ∃ t, exec (.plugReleased o) s = .next t ∧ t.cab.session o = Session.cleared
        ∧ (t.cab.outlet o).plug = { asserted := false, run := 0 } ∧ GrantsEnded s t o)
    ∧ ∀ ms bytes fromQueue frame, heardFrame bytes = .frame 0x22 [] → (s.cab.session o).channel = .inFlight fromQueue frame →
      ((s.cab.session o).state = .awaitingHello ∨ (s.cab.session o).repliesIdentified
        ∨ (s.cab.session o).state = .unmatched) →
      ∃ t, exec (.bye o ms bytes) s = .next t
        ∧ t.cab.session o = { Session.cleared with
            state := .closed, tag := (s.cab.session o).tag, profile := (s.cab.session o).profile
            cause := (s.cab.session o).cause, endReason := some .bye }
        ∧ (t.cab.outlet o).plug = (s.cab.outlet o).plug ∧ GrantsEnded s t o

/-- A vehicle that leaves in grace ends its lead LEFT, with the readiness of the departure snapshot and the energy taken (R78, R83). -/
def Obligations.LeavingInGraceEndsTheLeadLeft : Prop :=
  ∀ (s : State) (o : OutletNo) (e : Entry) (x : Execution) (n : Snapshot) (d : Nat), s.supply = .main →
    (s.cab.outlet o).plug.asserted = true → (s.cab.session o).holdsBinding = true → BookLaw s →
    s.cab.leadOf o = some e → e.booking = .oneShot d → e.next = some d → e.exec = some x → x.snapshot = some n →
    ∃ t r, exec (.plugReleased o) s = .next t ∧ t.cab.outcomes.getLast? = some r
      ∧ r.serial = s.cab.nextSerial ∧ r.number = e.number ∧ r.tag = e.tag ∧ r.outlet = e.occurrenceOutlet ∧ r.scheduled = d
      ∧ r.readiness = n.readiness ∧ r.cause = .left ∧ r.energy = x.energy / 3600 ∧ r.conditions = x.conditions
      ∧ r.targetReached = x.targetReached ∧ r.cabin = (n.cabin.map fun v => (v, n.stale))
      ∧ ∀ y ∈ t.cab.book, y.number ≠ e.number

/-! ## The outlet links -/

/-- After the wait the channel sends the first live record, stale ones before it removed unsent; a GRANT or STOP sent for the first time
joins the sent list, which keeps the last four (R115, R125, R132). Before the wait has passed it sends nothing. With nothing live to send, a
POLL goes out once the wait and the poll spacing have passed: 1,000 ms in AWAITING_HELLO and STALE, 2,000 ms in IDENTIFIED and UNMATCHED
(R115); before the spacing has passed, none does, and stale records stay where they are (log 29). -/
def Obligations.ChannelSendsTheHeadOrAPollInItsTime : Prop :=
  (∀ (s : State) (o : OutletNo) (ms : Nat) (dead rest : List QueueRecord) (r : QueueRecord), s.supply = .main →
    let now := max s.ms ms
    let x := s.cab.session o
    (x.state = .awaitingHello ∨ x.state = .identified ∨ x.state = .unmatched ∨ x.state = .stale) → x.channel = .idle →
    x.queue = dead ++ r :: rest → (∀ q ∈ dead, q.stale = true) → r.stale = false →
    ((∀ t, x.lastEnd = some t → t + 50 ≤ now) →
      exec (.sendQueuedRecord o ms) s = .next
        { s.atTime ms with cab := s.cab.updSession o fun y =>
          { y with
            queue := { r with sent := true } :: rest
            channel := .inFlight true r.body.frame
            sent :=
              match r.sent, r.body with
              | false, .grant q w l => (if x.sent.length < 4 then x.sent else x.sent.drop 1) ++ [⟨q, w, l⟩]
              | false, .stop q l => (if x.sent.length < 4 then x.sent else x.sent.drop 1) ++ [⟨q, 0, l⟩]
              | _, _ => x.sent } })
    ∧ (∀ t, x.lastEnd = some t → now < t + 50 → exec (.sendQueuedRecord o ms) s = .next (s.atTime ms)))
  ∧ ∀ (s : State) (o : OutletNo) (ms spacing : Nat), s.supply = .main →
    let now := max s.ms ms
    let x := s.cab.session o
    ((x.state = .awaitingHello ∨ x.state = .stale) ∧ spacing = 1000
      ∨ (x.state = .identified ∨ x.state = .unmatched) ∧ spacing = 2000) →
    x.channel = .idle → (∀ q ∈ x.queue, q.stale = true) → (∀ t, x.lastEnd = some t → t + 50 ≤ now) →
    ((∀ t, x.lastPoll = some t → t + spacing ≤ now) →
      exec (.poll o ms) s = .next
        { s.atTime ms with cab := s.cab.updSession o fun y =>
          { y with queue := [], channel := .inFlight false (outletFrame 0x10 []), lastPoll := some now } })
    ∧ (∀ t, x.lastPoll = some t → now < t + spacing → exec (.poll o ms) s = .next (s.atTime ms))

/-- A HELLO in AWAITING_HELLO decides the session by the first failing condition of the binding test, or identifies it and binds the tag's
entries; an invalid one makes it UNMATCHED with BAD_HELLO (R17, R120). -/
def Obligations.FirstHelloDecidesTheSession : Prop :=
  ∀ (s : State) (o : OutletNo) (ms : Nat) (bytes payload : List Byte) (fromQueue : Bool) (frame : List Byte), s.supply = .main →
    heardFrame bytes = .frame 0x20 payload → (s.cab.session o).state = .awaitingHello → (s.cab.session o).channel = .inFlight fromQueue frame →
    ∃ t, exec (.hello o ms bytes) s = .next t
      ∧ (t.cab.session o).misses = 0 ∧ (t.cab.session o).channel = .idle ∧ (t.cab.session o).lastEnd = some (max s.ms ms)
      ∧ (helloContents payload = none →
        (t.cab.session o).state = .unmatched ∧ (t.cab.session o).cause = some .badHello
          ∧ (t.cab.session o).tag = (s.cab.session o).tag ∧ t.cab.book = s.cab.book
          ∧ t.cab.notices = s.cab.notices.raise .vehicleUnmatched)
      ∧ ∀ tag p, helloContents payload = some (tag, p) →
        let taken := ∃ x, x ≠ o ∧ (s.cab.session x).holdsBinding = true ∧ (s.cab.session x).tag = some tag
        (t.cab.session o).tag = some tag ∧ (t.cab.session o).profile = some p
        ∧ (s.profiles.get p = none →
          (t.cab.session o).state = .unmatched ∧ (t.cab.session o).cause = some .noProfile ∧ t.cab.book = s.cab.book
            ∧ t.cab.notices = s.cab.notices.raise .vehicleUnmatched)
        ∧ (s.profiles.get p ≠ none → (∀ e ∈ s.cab.book, e.tag ≠ tag) →
          (t.cab.session o).state = .unmatched ∧ (t.cab.session o).cause = some .unknownTag ∧ t.cab.book = s.cab.book
            ∧ t.cab.notices = s.cab.notices.raise .vehicleUnmatched)
        ∧ (s.profiles.get p ≠ none → (∃ e ∈ s.cab.book, e.tag = tag) → taken →
          (t.cab.session o).state = .unmatched ∧ (t.cab.session o).cause = some .tagConflict ∧ t.cab.book = s.cab.book
            ∧ t.cab.notices = s.cab.notices.raise .vehicleUnmatched)
        ∧ (s.profiles.get p ≠ none → (∃ e ∈ s.cab.book, e.tag = tag) → ¬ taken →
          (t.cab.session o).state = .identified ∧ (t.cab.session o).cause = none
            ∧ (t.cab.session o).overdraw = 0 ∧ (t.cab.session o).energyRef = none
            ∧ (∀ e ∈ t.cab.book, e.tag = tag → e.bound = some o ∧ e.occurrenceOutlet = some o)
            ∧ t.cab.notices.pending.getLsbD 2 = true)

/-- A HELLO in IDENTIFIED or UNMATCHED changes neither the session nor the book; it is answered by a WELCOME in the queue (R117, R121, R122).
A good reply in STALE first returns the session to the state it came from (R119): from IDENTIFIED it is taken as in IDENTIFIED; a session that
came from UNMATCHED is tested again, and where the test fails it is taken as in UNMATCHED with that cause, while where it passes the session
becomes IDENTIFIED with its tag's entries before the reply itself is taken (R17, R19; log 20). What arrives on an IDLE channel is discarded and
counts for nothing (R116), and bytes that make no whole frame leave the exchange in flight (R204; log 10). -/
def Obligations.LaterHellosDecideNothingAndStaleSessionsReturn : Prop :=
  (∀ (s : State) (o : OutletNo) (ms : Nat) (bytes payload : List Byte) (fromQueue : Bool) (frame : List Byte), s.supply = .main →
      heardFrame bytes = .frame 0x20 payload →
      (s.cab.session o).state = .identified ∨ (s.cab.session o).state = .unmatched →
      (s.cab.session o).channel = .inFlight fromQueue frame →
      ∃ t, exec (.hello o ms bytes) s = .next t
        ∧ (t.cab.session o).butQueue =
          { (s.cab.session o).butQueue with misses := 0, channel := .idle, lastEnd := some (max s.ms ms) }
        ∧ (∃ r ∈ (t.cab.session o).queue, r.stale = false
          ∧ r.body = .welcome (s.cab.session o).tag
            (if (s.cab.session o).state = .identified then none else (s.cab.session o).cause))
        ∧ (∀ p, p ≠ o → t.cab.outlet p = s.cab.outlet p) ∧ t.cab.book = s.cab.book ∧ t.cab.notices = s.cab.notices)
  ∧ (∀ (s : State) (o : OutletNo) (ms : Nat) (c : Instr) (bytes payload : List Byte) (kind : Byte) (fromQueue : Bool) (frame : List Byte),
      s.supply = .main → heardFrame bytes = .frame kind payload → goodReply kind payload →
      c = .hello o ms bytes ∨ c = .report o ms bytes ∨ c = .bye o ms bytes →
      (s.cab.session o).channel = .inFlight fromQueue frame → (s.cab.session o).state = .stale →
      let x := s.cab.session o
      let returned := fun (state : SessionState) (cause : Option UnmatchedCause) =>
        ({ s with cab := s.cab.updSession o fun y => { y with state := state, cameFrom := none, cause := cause } } : State)
      (x.cameFrom = some .identified → exec c s = exec c (returned .identified x.cause))
      ∧ (x.cameFrom = some .unmatched →
        (x.tag = none → exec c s = exec c (returned .unmatched x.cause))
        ∧ ∀ tag p, x.tag = some tag → x.profile = some p →
          let taken := ∃ y, y ≠ o ∧ (s.cab.session y).holdsBinding = true ∧ (s.cab.session y).tag = some tag
          (s.profiles.get p = none → exec c s = exec c (returned .unmatched (some .noProfile)))
          ∧ (s.profiles.get p ≠ none → (∀ e ∈ s.cab.book, e.tag ≠ tag) → exec c s = exec c (returned .unmatched (some .unknownTag)))
          ∧ (s.profiles.get p ≠ none → (∃ e ∈ s.cab.book, e.tag = tag) → taken →
            exec c s = exec c (returned .unmatched (some .tagConflict)))
          ∧ (s.profiles.get p ≠ none → (∃ e ∈ s.cab.book, e.tag = tag) → ¬ taken →
            ∃ t, exec c s = .next t ∧ t.cab.notices.pending.getLsbD 2 = true ∧ (t.cab.session o).cause = none
              ∧ (t.cab.session o).tag = some tag
              ∧ (kind = 0x22 → (t.cab.session o).state = .closed ∧ ∀ e ∈ t.cab.book, e.bound ≠ some o)
              ∧ (kind ≠ 0x22 → (t.cab.session o).state = .identified ∧ (t.cab.session o).cameFrom = none ∧ (t.cab.session o).misses = 0
                ∧ (∃ r ∈ (t.cab.session o).queue, r.stale = false ∧ r.body = .welcome (some tag) none)
                ∧ ∀ e ∈ t.cab.book, e.tag = tag → e.bound = some o ∧ e.occurrenceOutlet = some o))))
  ∧ (∀ (s : State) (o : OutletNo) (ms : Nat) (bytes : List Byte), s.supply = .main →
      exec (.frameWhileIdle o ms) s = .next (s.atTime ms)
      ∧ ((s.cab.session o).channel = .idle → exec (.replyTimeout o ms) s = .next (s.atTime ms))
      ∧ ((s.cab.session o).channel = .idle ∨ heardFrame bytes = .incomplete →
        exec (.hello o ms bytes) s = .next (s.atTime ms) ∧ exec (.report o ms bytes) s = .next (s.atTime ms)
        ∧ exec (.bye o ms bytes) s = .next (s.atTime ms) ∧ exec (.otherKindReply o ms bytes) s = .next (s.atTime ms)
        ∧ exec (.badCrcReply o ms bytes) s = .next (s.atTime ms)))

/-- A REPORT in IDENTIFIED, or in STALE come from there, is stored clamped, its acknowledgement accepted when the record named is in the sent
list, and its draw judged: within the limit the count is 0, once above it 1, a second time the session is FAULTED with its grant zero (R119,
R124, R125, R127, R128). In UNMATCHED it is stored and nothing else is done with it (R124). -/
def Obligations.ReportIsFiledAndItsDrawJudged : Prop :=
  ∀ (s : State) (o : OutletNo) (ms : Nat) (bytes payload : List Byte) (fromQueue : Bool) (frame : List Byte), s.supply = .main →
    heardFrame bytes = .frame 0x21 payload →
    (s.cab.session o).channel = .inFlight fromQueue frame → payload.length = 7 →
    let now := max s.ms ms
    let x := s.cab.session o
    let named : Option Seq := if u8At payload 4 = 1 then some (BitVec.ofNat 16 (u16At payload 5)) else none
    let cabin := max (-500) (min 700 (s16At payload 0))
    let filed : Report :=
      { cabin := cabin, clamped := decide (cabin ≠ s16At payload 0), draw := u16At payload 2, named := named, receivedAt := now }
    let lease := match named.bind fun q => x.sent.find? fun r => r.seq == q with
      | some r => if x.acked.map Acknowledged.seq = some r.seq then x.lease else r.lease
      | none => x.lease
    let limit := x.limitAfter payload
    (x.repliesIdentified → ∃ t, exec (.report o ms bytes) s = .next t
      ∧ (u16At payload 2 ≤ limit ∨ x.overdraw = 0 →
        (t.cab.session o).state = .identified ∧ (t.cab.session o).tag = x.tag ∧ (t.cab.session o).misses = 0
          ∧ (t.cab.session o).channel = .idle ∧ (t.cab.session o).energyRef = some now
          ∧ (t.cab.session o).lastReport = some filed
          ∧ (t.cab.session o).acked = x.ackedAfter payload ∧ (t.cab.session o).lease = lease
          ∧ (t.cab.session o).overdraw = (if u16At payload 2 ≤ limit then 0 else 1))
      ∧ (limit < u16At payload 2 → 1 ≤ x.overdraw →
        (t.cab.session o).state = .faulted ∧ (t.cab.session o).endReason = some .overdraw
          ∧ (t.cab.outlet o).grants.released = 0 ∧ t.cab.notices.pending.getLsbD 5 = true))
    ∧ (x.state = .unmatched → ∃ t, exec (.report o ms bytes) s = .next t
      ∧ (t.cab.session o).butQueue =
        { x.butQueue with misses := 0, channel := .idle, lastEnd := some now, lastReport := some filed }
      ∧ (∀ p, (t.cab.outlet p).grants = (s.cab.outlet p).grants) ∧ t.cab.book = s.cab.book ∧ t.cab.notices = s.cab.notices)

/-- A REPORT moves its WARMING lead to HOLDING at the target less 5 tenths and its HOLDING lead back below the target less 20, and adds the
energy of its draw over the time since the last report, at most 5 s of it (R69 to R72). Stated for every REPORT whose draw does not end the
session: one within its limit, or the first above it (R127, R128). -/
def Obligations.ReportMovesItsLeadAndAddsEnergy : Prop :=
  ∀ (s : State) (o : OutletNo) (ms : Nat) (bytes payload : List Byte) (fromQueue : Bool) (frame : List Byte) (e : Entry) (x : Execution),
    s.supply = .main → heardFrame bytes = .frame 0x21 payload → (s.cab.session o).repliesIdentified →
    (s.cab.session o).channel = .inFlight fromQueue frame → payload.length = 7 →
    u16At payload 2 ≤ (s.cab.session o).limitAfter payload ∨ (s.cab.session o).overdraw = 0 →
    BookLaw s → s.cab.leadOf o = some e → e.exec = some x → e.state = .warming ∨ e.state = .holding →
    let cabin := max (-500) (min 700 (s16At payload 0))
    let elapsed := match (s.cab.session o).energyRef with
      | some t => min (max s.ms ms - t) 5000
      | none => 0
    let toHolding := e.state = .warming ∧ e.target - 5 ≤ cabin
    let toWarming := e.state = .holding ∧ cabin < e.target - 20
    ∃ t, exec (.report o ms bytes) s = .next t
      ∧ t.cab.entry? e.number = some { e with
        state := if toHolding then .holding else if toWarming then .warming else e.state
        exec := some { x with
          energy := min 4294967295 (x.energy + u16At payload 2 * elapsed / 1000)
          targetReached := if toHolding then some (x.targetReached.getD s.clock.depotTime) else x.targetReached } }
      ∧ ∀ n, n ≠ e.number → t.cab.entry? n = s.cab.entry? n

/-- A miss counts; the third takes an IDENTIFIED or UNMATCHED session to STALE, and the tenth in AWAITING_HELLO or the sixth in all closes it
with LINK_LOST. A timeout, a bad frame, a reply of another kind, a REPORT that is not 7 bytes or comes in AWAITING_HELLO, and a BYE with a
payload are misses alike (R116 to R118, R204). -/
def Obligations.MissesLeadToStaleAndToTheLinkLost : Prop :=
  ∀ (s : State) (o : OutletNo) (ms : Nat) (c : Instr) (bytes : List Byte) (fromQueue : Bool) (frame : List Byte), s.supply = .main →
    let x := s.cab.session o
    let isMiss := heardFrame bytes = .bad ∨ ∃ kind payload, heardFrame bytes = .frame kind payload
      ∧ ((kind ≠ 0x20 ∧ kind ≠ 0x21 ∧ kind ≠ 0x22) ∨ (kind = 0x21 ∧ (payload.length ≠ 7 ∨ x.state = .awaitingHello))
        ∨ (kind = 0x22 ∧ payload ≠ []))
    c = .replyTimeout o ms
      ∨ (isMiss ∧ (c = .otherKindReply o ms bytes ∨ c = .badCrcReply o ms bytes ∨ c = .report o ms bytes ∨ c = .bye o ms bytes)) →
    x.channel = .inFlight fromQueue frame →
    let missed : Session := { x with misses := x.misses + 1, channel := .idle, lastEnd := some (max s.ms ms) }
    (x.state = .awaitingHello ∧ x.misses < 9 ∨ x.state = .stale ∧ x.misses < 5
        ∨ (x.state = .identified ∨ x.state = .unmatched) ∧ x.misses < 2 →
      exec c s = .next { s.atTime ms with cab := s.cab.updSession o fun _ => missed })
    ∧ (x.state = .identified → 2 ≤ x.misses →
      exec c s = .next { s.atTime ms with cab := s.cab.updSession o fun _ =>
        { missed with state := .stale, cameFrom := some .identified } })
    ∧ (x.state = .unmatched → 2 ≤ x.misses →
      exec c s = .next { s.atTime ms with cab := s.cab.updSession o fun _ =>
        { missed with state := .stale, cameFrom := some .unmatched } })
    ∧ (x.state = .awaitingHello ∧ 9 ≤ x.misses ∨ x.state = .stale ∧ 5 ≤ x.misses →
      ∃ t, exec c s = .next t ∧ (t.cab.session o).state = .closed ∧ (t.cab.session o).endReason = some .linkLost
        ∧ (t.cab.session o).queue = [] ∧ (t.cab.outlet o).grants.released = 0 ∧ t.cab.notices.pending.getLsbD 4 = true)

/-! ## Resets and supplies -/

/-- A main reset starts the main domain afresh and leaves the whole Time Base as it stands; it raises CLOCK_UNSET and CLOCK_FALLBACK by what
it finds there (R28, R39, R64, R89, R110, R137, R157, R170, R179, R199). The model's own counters, ms and freeCount, go on (log 8, log 16). -/
def Obligations.MainResetStartsTheMainDomainAfresh : Prop :=
  ∀ s : State,
    let unset : NoticeSet := if s.clock.calendar = .unset then 0x0800 else 0
    let fallback : NoticeSet := if s.clock.source = .internal ∨ s.clock.calendar = .drifting then 0x0400 else 0
    exec .mainReset s = .next
      { State.reset with
        pending := s.pending, clock := s.clock, ms := s.ms
        cab := { State.reset.cab with
          freeCount := s.cab.freeCount
          notices := { pending := unset ||| fallback, reported := 0, enabled := 0x1FFB, attention := decide (unset ||| fallback ≠ 0) } } }

/-- When main power fails the Time Base alone goes on: source seconds and windows reach the calendar, the source and u and nothing else, and
no notice is raised; every other event of the main domain reaches nothing (R155; log 13). The seconds that a switch recovers are counted one
after another (R148). -/
def Obligations.TimeBaseGoesOnAloneWithoutMainPower : Prop :=
  let second := fun c : TimeBase => { c with
    depotTime := if c.isSet = true ∧ c.depotTime < 3155759999 then c.depotTime + 1 else c.depotTime
    calendar := if c.isSet = true ∧ c.depotTime + 1 = 3155759999 then .unset else c.calendar
    u := if c.source = .internal ∧ c.calendar = .drifting then min 4294967295 (c.u + 1) else c.u }
  (∀ s : State, s.supply = .main → ∃ t, exec .mainPowerLoss s = .next t ∧ t.supply = .backupOnly ∧ t.clock = s.clock
    ∧ t.cab.notices.attention = false ∧ t.cab.book = [] ∧ ∀ o, t.cab.session o = Session.cleared)
  ∧ (∀ (s : State) (order : SecondOrder), s.supply = .backupOnly →
    exec (.sourceSecond order) s = .next { s with clock := second s.clock })
  ∧ (∀ (s : State) (edges : Nat) (recovered : List SecondOrder), s.supply = .backupOnly →
    let kept : Option (BitVec 16) := some (BitVec.ofNat 16 (min 65535 edges))
    ((63570 ≤ edges ∧ edges ≤ 67502) →
      exec (.windowEnd edges recovered) s = .next { s with clock := { s.clock with
        lastWindow := kept, passCount := min 4 (s.clock.passCount + 1)
        source := if 3 ≤ s.clock.passCount then .crystal else s.clock.source } })
    ∧ (¬(63570 ≤ edges ∧ edges ≤ 67502) →
      (s.clock.source = .internal →
        exec (.windowEnd edges recovered) s = .next { s with clock := { s.clock with lastWindow := kept, passCount := 0 } })
      ∧ (s.clock.source = .crystal →
        let switched : TimeBase := { s.clock with
          lastWindow := kept, passCount := 0, source := .internal
          calendar := if s.clock.calendar = .trueTime then .drifting else s.clock.calendar }
        exec (.windowEnd edges recovered) s = .next { s with clock := recovered.foldl (fun c _ => second c) switched })))
  ∧ ∀ (s : State) (c : Instr), s.supply ≠ .main →
    (∀ order, c ≠ .sourceSecond order) → (∀ edges recovered, c ≠ .windowEnd edges recovered) →
    c ≠ .mainReset → c ≠ .backupLoss → exec c s = .next s

/-- A backup loss and the main reset that follows it leave the part as it is right after first power-on (R156, R157), but for the model's
count of free values and the commands waiting (log 2, log 14, log 16). -/
def Obligations.BackupLossAndMainResetGiveReset : Prop :=
  ∀ s : State, ∃ t, exec .backupLoss s = .next t ∧ t.supply = .none ∧ t.clock = State.reset.clock
    ∧ exec .mainReset t = .next
      { State.reset with pending := s.pending, cab := { State.reset.cab with freeCount := s.cab.freeCount } }
end

