-- ==== Sys2Proof/Laws/State.lean ====
section
/-!
SUPPORT. One lemma for each field of each update: what the update writes, and what it leaves as it was.
-/

namespace Sys2Proof.Machine

/-! ## The whole state -/

@[simp] theorem State.atTime_pending (s : State) (ms : Nat) : (s.atTime ms).pending = s.pending := rfl
@[simp] theorem State.atTime_supply (s : State) (ms : Nat) : (s.atTime ms).supply = s.supply := rfl
@[simp] theorem State.atTime_clock (s : State) (ms : Nat) : (s.atTime ms).clock = s.clock := rfl
@[simp] theorem State.atTime_planner (s : State) (ms : Nat) : (s.atTime ms).planner = s.planner := rfl
@[simp] theorem State.atTime_profiles (s : State) (ms : Nat) : (s.atTime ms).profiles = s.profiles := rfl
@[simp] theorem State.atTime_arbiter (s : State) (ms : Nat) : (s.atTime ms).arbiter = s.arbiter := rfl
@[simp] theorem State.atTime_shed (s : State) (ms : Nat) : (s.atTime ms).shed = s.shed := rfl
@[simp] theorem State.atTime_cab (s : State) (ms : Nat) : (s.atTime ms).cab = s.cab := rfl
@[simp] theorem State.atTime_port (s : State) (ms : Nat) : (s.atTime ms).port = s.port := rfl
@[simp] theorem State.atTime_ms (s : State) (ms : Nat) : (s.atTime ms).ms = max s.ms ms := rfl

@[simp] theorem State.onCabinet_pending (s : State) (f : Env → Cabinet → Cabinet) : (s.onCabinet f).pending = s.pending := rfl
@[simp] theorem State.onCabinet_supply (s : State) (f : Env → Cabinet → Cabinet) : (s.onCabinet f).supply = s.supply := rfl
@[simp] theorem State.onCabinet_clock (s : State) (f : Env → Cabinet → Cabinet) : (s.onCabinet f).clock = s.clock := rfl
@[simp] theorem State.onCabinet_planner (s : State) (f : Env → Cabinet → Cabinet) : (s.onCabinet f).planner = s.planner := rfl
@[simp] theorem State.onCabinet_profiles (s : State) (f : Env → Cabinet → Cabinet) : (s.onCabinet f).profiles = s.profiles := rfl
@[simp] theorem State.onCabinet_arbiter (s : State) (f : Env → Cabinet → Cabinet) : (s.onCabinet f).arbiter = s.arbiter := rfl
@[simp] theorem State.onCabinet_shed (s : State) (f : Env → Cabinet → Cabinet) : (s.onCabinet f).shed = s.shed := rfl
@[simp] theorem State.onCabinet_cab (s : State) (f : Env → Cabinet → Cabinet) : (s.onCabinet f).cab = f s.env s.cab := rfl
@[simp] theorem State.onCabinet_port (s : State) (f : Env → Cabinet → Cabinet) : (s.onCabinet f).port = s.port := rfl
@[simp] theorem State.onCabinet_ms (s : State) (f : Env → Cabinet → Cabinet) : (s.onCabinet f).ms = s.ms := rfl

@[simp] theorem State.onPort_pending (s : State) (f : Port → Port) : (s.onPort f).pending = s.pending := rfl
@[simp] theorem State.onPort_supply (s : State) (f : Port → Port) : (s.onPort f).supply = s.supply := rfl
@[simp] theorem State.onPort_clock (s : State) (f : Port → Port) : (s.onPort f).clock = s.clock := rfl
@[simp] theorem State.onPort_planner (s : State) (f : Port → Port) : (s.onPort f).planner = s.planner := rfl
@[simp] theorem State.onPort_profiles (s : State) (f : Port → Port) : (s.onPort f).profiles = s.profiles := rfl
@[simp] theorem State.onPort_arbiter (s : State) (f : Port → Port) : (s.onPort f).arbiter = s.arbiter := rfl
@[simp] theorem State.onPort_shed (s : State) (f : Port → Port) : (s.onPort f).shed = s.shed := rfl
@[simp] theorem State.onPort_cab (s : State) (f : Port → Port) : (s.onPort f).cab = s.cab := rfl
@[simp] theorem State.onPort_port (s : State) (f : Port → Port) : (s.onPort f).port = f s.port := rfl
@[simp] theorem State.onPort_ms (s : State) (f : Port → Port) : (s.onPort f).ms = s.ms := rfl

@[simp] theorem State.withNotices_pending (s : State) (n : Notices) : (s.withNotices n).pending = s.pending := rfl
@[simp] theorem State.withNotices_supply (s : State) (n : Notices) : (s.withNotices n).supply = s.supply := rfl
@[simp] theorem State.withNotices_clock (s : State) (n : Notices) : (s.withNotices n).clock = s.clock := rfl
@[simp] theorem State.withNotices_planner (s : State) (n : Notices) : (s.withNotices n).planner = s.planner := rfl
@[simp] theorem State.withNotices_profiles (s : State) (n : Notices) : (s.withNotices n).profiles = s.profiles := rfl
@[simp] theorem State.withNotices_arbiter (s : State) (n : Notices) : (s.withNotices n).arbiter = s.arbiter := rfl
@[simp] theorem State.withNotices_shed (s : State) (n : Notices) : (s.withNotices n).shed = s.shed := rfl
@[simp] theorem State.withNotices_cab (s : State) (n : Notices) : (s.withNotices n).cab = { s.cab with notices := n } := rfl
@[simp] theorem State.withNotices_port (s : State) (n : Notices) : (s.withNotices n).port = s.port := rfl
@[simp] theorem State.withNotices_ms (s : State) (n : Notices) : (s.withNotices n).ms = s.ms := rfl

@[simp] theorem State.setSite_pending (s : State) (i m : Nat) : (s.setSite i m).pending = s.pending := rfl
@[simp] theorem State.setSite_supply (s : State) (i m : Nat) : (s.setSite i m).supply = s.supply := rfl
@[simp] theorem State.setSite_clock (s : State) (i m : Nat) : (s.setSite i m).clock = s.clock := rfl
@[simp] theorem State.setSite_planner (s : State) (i m : Nat) : (s.setSite i m).planner = { s.planner with baseMargin := min 900 m } := rfl
@[simp] theorem State.setSite_profiles (s : State) (i m : Nat) : (s.setSite i m).profiles = s.profiles := rfl
@[simp] theorem State.setSite_arbiter (s : State) (i m : Nat) : (s.setSite i m).arbiter = { s.arbiter with pendingInterval := max 5 (min 60 i) } := rfl
@[simp] theorem State.setSite_shed (s : State) (i m : Nat) : (s.setSite i m).shed = s.shed := rfl
@[simp] theorem State.setSite_cab (s : State) (i m : Nat) : (s.setSite i m).cab = s.cab := rfl
@[simp] theorem State.setSite_port (s : State) (i m : Nat) : (s.setSite i m).port = s.port := rfl
@[simp] theorem State.setSite_ms (s : State) (i m : Nat) : (s.setSite i m).ms = s.ms := rfl

@[simp] theorem State.setAllowance_pending (s : State) (w : Nat) : (s.setAllowance w).pending = s.pending := rfl
@[simp] theorem State.setAllowance_supply (s : State) (w : Nat) : (s.setAllowance w).supply = s.supply := rfl
@[simp] theorem State.setAllowance_clock (s : State) (w : Nat) : (s.setAllowance w).clock = s.clock := rfl
@[simp] theorem State.setAllowance_planner (s : State) (w : Nat) : (s.setAllowance w).planner = s.planner := rfl
@[simp] theorem State.setAllowance_profiles (s : State) (w : Nat) : (s.setAllowance w).profiles = s.profiles := rfl
@[simp] theorem State.setAllowance_arbiter (s : State) (w : Nat) : (s.setAllowance w).arbiter = { s.arbiter with pendingAllowance := min 250000 w } := rfl
@[simp] theorem State.setAllowance_shed (s : State) (w : Nat) : (s.setAllowance w).shed = s.shed := rfl
@[simp] theorem State.setAllowance_cab (s : State) (w : Nat) : (s.setAllowance w).cab = s.cab := rfl
@[simp] theorem State.setAllowance_port (s : State) (w : Nat) : (s.setAllowance w).port = s.port := rfl
@[simp] theorem State.setAllowance_ms (s : State) (w : Nat) : (s.setAllowance w).ms = s.ms := rfl

@[simp] theorem State.resumed_pending (s : State) : (s.resumed).pending = s.pending := rfl
@[simp] theorem State.resumed_supply (s : State) : (s.resumed).supply = s.supply := rfl
@[simp] theorem State.resumed_clock (s : State) : (s.resumed).clock = s.clock := rfl
@[simp] theorem State.resumed_planner (s : State) : (s.resumed).planner = s.planner := rfl
@[simp] theorem State.resumed_profiles (s : State) : (s.resumed).profiles = s.profiles := rfl
@[simp] theorem State.resumed_arbiter (s : State) : (s.resumed).arbiter = s.arbiter := rfl
@[simp] theorem State.resumed_shed (s : State) : (s.resumed).shed = { s.shed with latch := false } := rfl
@[simp] theorem State.resumed_cab (s : State) : (s.resumed).cab = { s.cab with quiesce := .none } := rfl
@[simp] theorem State.resumed_port (s : State) : (s.resumed).port = s.port := rfl
@[simp] theorem State.resumed_ms (s : State) : (s.resumed).ms = s.ms := rfl

@[simp] theorem State.answered_pending (s : State) (ty : Byte) (p r : List Byte) : (s.answered ty p r).pending = s.pending := rfl
@[simp] theorem State.answered_supply (s : State) (ty : Byte) (p r : List Byte) : (s.answered ty p r).supply = s.supply := rfl
@[simp] theorem State.answered_clock (s : State) (ty : Byte) (p r : List Byte) : (s.answered ty p r).clock = s.clock := rfl
@[simp] theorem State.answered_planner (s : State) (ty : Byte) (p r : List Byte) : (s.answered ty p r).planner = s.planner := rfl
@[simp] theorem State.answered_profiles (s : State) (ty : Byte) (p r : List Byte) : (s.answered ty p r).profiles = s.profiles := rfl
@[simp] theorem State.answered_arbiter (s : State) (ty : Byte) (p r : List Byte) : (s.answered ty p r).arbiter = s.arbiter := rfl
@[simp] theorem State.answered_shed (s : State) (ty : Byte) (p r : List Byte) : (s.answered ty p r).shed = s.shed := rfl
@[simp] theorem State.answered_cab (s : State) (ty : Byte) (p r : List Byte) : (s.answered ty p r).cab = s.cab := rfl
@[simp] theorem State.answered_port (s : State) (ty : Byte) (p r : List Byte) : (s.answered ty p r).port = { s.port with current := some { request := { ty := ty, payload := p }, phase := .processed r } } := rfl
@[simp] theorem State.answered_ms (s : State) (ty : Byte) (p r : List Byte) : (s.answered ty p r).ms = s.ms := rfl

@[simp] theorem State.mainCleared_pending (s : State) : (s.mainCleared).pending = s.pending := rfl
@[simp] theorem State.mainCleared_supply (s : State) : (s.mainCleared).supply = s.supply := rfl
@[simp] theorem State.mainCleared_clock (s : State) : (s.mainCleared).clock = s.clock := rfl
@[simp] theorem State.mainCleared_planner (s : State) : (s.mainCleared).planner = .afterReset := rfl
@[simp] theorem State.mainCleared_profiles (s : State) : (s.mainCleared).profiles = .all none := rfl
@[simp] theorem State.mainCleared_arbiter (s : State) : (s.mainCleared).arbiter = .afterReset := rfl
@[simp] theorem State.mainCleared_shed (s : State) : (s.mainCleared).shed = { filter := .deasserted, latch := false } := rfl
@[simp] theorem State.mainCleared_cab (s : State) : (s.mainCleared).cab = s.cab.afterReset := rfl
@[simp] theorem State.mainCleared_port (s : State) : (s.mainCleared).port = .afterReset := rfl
@[simp] theorem State.mainCleared_ms (s : State) : (s.mainCleared).ms = s.ms := rfl

@[simp] theorem State.countSecond_pending (s : State) : (s.countSecond).pending = s.pending := rfl
@[simp] theorem State.countSecond_supply (s : State) : (s.countSecond).supply = s.supply := rfl
@[simp] theorem State.countSecond_clock (s : State) : (s.countSecond).clock = s.clock.countU := rfl
@[simp] theorem State.countSecond_planner (s : State) : (s.countSecond).planner = s.planner.countSecond := rfl
@[simp] theorem State.countSecond_profiles (s : State) : (s.countSecond).profiles = s.profiles := rfl
@[simp] theorem State.countSecond_arbiter (s : State) : (s.countSecond).arbiter = s.arbiter.countSecond := rfl
@[simp] theorem State.countSecond_shed (s : State) : (s.countSecond).shed = s.shed := rfl
@[simp] theorem State.countSecond_cab (s : State) : (s.countSecond).cab = { s.cab with outlets := s.cab.outlets.map Outlet.countSecond } := rfl
@[simp] theorem State.countSecond_port (s : State) : (s.countSecond).port = s.port := rfl
@[simp] theorem State.countSecond_ms (s : State) : (s.countSecond).ms = s.ms := rfl

/-! ## The cabinet -/

@[simp] theorem Cabinet.raise_book (c : Cabinet) (n : NoticeClass) : (c.raise n).book = c.book := rfl
@[simp] theorem Cabinet.raise_outcomes (c : Cabinet) (n : NoticeClass) : (c.raise n).outcomes = c.outcomes := rfl
@[simp] theorem Cabinet.raise_nextSerial (c : Cabinet) (n : NoticeClass) : (c.raise n).nextSerial = c.nextSerial := rfl
@[simp] theorem Cabinet.raise_outlets (c : Cabinet) (n : NoticeClass) : (c.raise n).outlets = c.outlets := rfl
@[simp] theorem Cabinet.raise_quiesce (c : Cabinet) (n : NoticeClass) : (c.raise n).quiesce = c.quiesce := rfl
@[simp] theorem Cabinet.raise_notices (c : Cabinet) (n : NoticeClass) : (c.raise n).notices = c.notices.raise n := rfl
@[simp] theorem Cabinet.raise_freeCount (c : Cabinet) (n : NoticeClass) : (c.raise n).freeCount = c.freeCount := rfl

@[simp] theorem Cabinet.updOutlet_book (c : Cabinet) (o : OutletNo) (f : Outlet → Outlet) : (c.updOutlet o f).book = c.book := rfl
@[simp] theorem Cabinet.updOutlet_outcomes (c : Cabinet) (o : OutletNo) (f : Outlet → Outlet) : (c.updOutlet o f).outcomes = c.outcomes := rfl
@[simp] theorem Cabinet.updOutlet_nextSerial (c : Cabinet) (o : OutletNo) (f : Outlet → Outlet) : (c.updOutlet o f).nextSerial = c.nextSerial := rfl
@[simp] theorem Cabinet.updOutlet_outlets (c : Cabinet) (o : OutletNo) (f : Outlet → Outlet) : (c.updOutlet o f).outlets = c.outlets.set o (f (c.outlet o)) := rfl
@[simp] theorem Cabinet.updOutlet_quiesce (c : Cabinet) (o : OutletNo) (f : Outlet → Outlet) : (c.updOutlet o f).quiesce = c.quiesce := rfl
@[simp] theorem Cabinet.updOutlet_notices (c : Cabinet) (o : OutletNo) (f : Outlet → Outlet) : (c.updOutlet o f).notices = c.notices := rfl
@[simp] theorem Cabinet.updOutlet_freeCount (c : Cabinet) (o : OutletNo) (f : Outlet → Outlet) : (c.updOutlet o f).freeCount = c.freeCount := rfl

@[simp] theorem Cabinet.updSession_book (c : Cabinet) (o : OutletNo) (f : Session → Session) : (c.updSession o f).book = c.book := rfl
@[simp] theorem Cabinet.updSession_outcomes (c : Cabinet) (o : OutletNo) (f : Session → Session) : (c.updSession o f).outcomes = c.outcomes := rfl
@[simp] theorem Cabinet.updSession_nextSerial (c : Cabinet) (o : OutletNo) (f : Session → Session) : (c.updSession o f).nextSerial = c.nextSerial := rfl
@[simp] theorem Cabinet.updSession_quiesce (c : Cabinet) (o : OutletNo) (f : Session → Session) : (c.updSession o f).quiesce = c.quiesce := rfl
@[simp] theorem Cabinet.updSession_notices (c : Cabinet) (o : OutletNo) (f : Session → Session) : (c.updSession o f).notices = c.notices := rfl
@[simp] theorem Cabinet.updSession_freeCount (c : Cabinet) (o : OutletNo) (f : Session → Session) : (c.updSession o f).freeCount = c.freeCount := rfl

@[simp] theorem Cabinet.updGrants_book (c : Cabinet) (o : OutletNo) (f : GrantRow → GrantRow) : (c.updGrants o f).book = c.book := rfl
@[simp] theorem Cabinet.updGrants_outcomes (c : Cabinet) (o : OutletNo) (f : GrantRow → GrantRow) : (c.updGrants o f).outcomes = c.outcomes := rfl
@[simp] theorem Cabinet.updGrants_nextSerial (c : Cabinet) (o : OutletNo) (f : GrantRow → GrantRow) : (c.updGrants o f).nextSerial = c.nextSerial := rfl
@[simp] theorem Cabinet.updGrants_quiesce (c : Cabinet) (o : OutletNo) (f : GrantRow → GrantRow) : (c.updGrants o f).quiesce = c.quiesce := rfl
@[simp] theorem Cabinet.updGrants_notices (c : Cabinet) (o : OutletNo) (f : GrantRow → GrantRow) : (c.updGrants o f).notices = c.notices := rfl
@[simp] theorem Cabinet.updGrants_freeCount (c : Cabinet) (o : OutletNo) (f : GrantRow → GrantRow) : (c.updGrants o f).freeCount = c.freeCount := rfl

@[simp] theorem Cabinet.updEntry_book (c : Cabinet) (n : Nat) (f : Entry → Entry) : (c.updEntry n f).book = c.book.map fun e => if e.number = n then f e else e := rfl
@[simp] theorem Cabinet.updEntry_outcomes (c : Cabinet) (n : Nat) (f : Entry → Entry) : (c.updEntry n f).outcomes = c.outcomes := rfl
@[simp] theorem Cabinet.updEntry_nextSerial (c : Cabinet) (n : Nat) (f : Entry → Entry) : (c.updEntry n f).nextSerial = c.nextSerial := rfl
@[simp] theorem Cabinet.updEntry_outlets (c : Cabinet) (n : Nat) (f : Entry → Entry) : (c.updEntry n f).outlets = c.outlets := rfl
@[simp] theorem Cabinet.updEntry_quiesce (c : Cabinet) (n : Nat) (f : Entry → Entry) : (c.updEntry n f).quiesce = c.quiesce := rfl
@[simp] theorem Cabinet.updEntry_notices (c : Cabinet) (n : Nat) (f : Entry → Entry) : (c.updEntry n f).notices = c.notices := rfl
@[simp] theorem Cabinet.updEntry_freeCount (c : Cabinet) (n : Nat) (f : Entry → Entry) : (c.updEntry n f).freeCount = c.freeCount := rfl

@[simp] theorem Cabinet.removeEntry_book (c : Cabinet) (n : Nat) : (c.removeEntry n).book = c.book.filter fun e => e.number != n := rfl
@[simp] theorem Cabinet.removeEntry_outcomes (c : Cabinet) (n : Nat) : (c.removeEntry n).outcomes = c.outcomes := rfl
@[simp] theorem Cabinet.removeEntry_nextSerial (c : Cabinet) (n : Nat) : (c.removeEntry n).nextSerial = c.nextSerial := rfl
@[simp] theorem Cabinet.removeEntry_outlets (c : Cabinet) (n : Nat) : (c.removeEntry n).outlets = c.outlets := rfl
@[simp] theorem Cabinet.removeEntry_quiesce (c : Cabinet) (n : Nat) : (c.removeEntry n).quiesce = c.quiesce := rfl
@[simp] theorem Cabinet.removeEntry_notices (c : Cabinet) (n : Nat) : (c.removeEntry n).notices = c.notices := rfl
@[simp] theorem Cabinet.removeEntry_freeCount (c : Cabinet) (n : Nat) : (c.removeEntry n).freeCount = c.freeCount := rfl

@[simp] theorem Cabinet.addEntry_book (c : Cabinet) (e : Entry) : (c.addEntry e).book = insertByNumber e c.book := rfl
@[simp] theorem Cabinet.addEntry_outcomes (c : Cabinet) (e : Entry) : (c.addEntry e).outcomes = c.outcomes := rfl
@[simp] theorem Cabinet.addEntry_nextSerial (c : Cabinet) (e : Entry) : (c.addEntry e).nextSerial = c.nextSerial := rfl
@[simp] theorem Cabinet.addEntry_outlets (c : Cabinet) (e : Entry) : (c.addEntry e).outlets = c.outlets := rfl
@[simp] theorem Cabinet.addEntry_quiesce (c : Cabinet) (e : Entry) : (c.addEntry e).quiesce = c.quiesce := rfl
@[simp] theorem Cabinet.addEntry_notices (c : Cabinet) (e : Entry) : (c.addEntry e).notices = c.notices := rfl
@[simp] theorem Cabinet.addEntry_freeCount (c : Cabinet) (e : Entry) : (c.addEntry e).freeCount = c.freeCount := rfl

@[simp] theorem Cabinet.bindTag_outcomes (c : Cabinet) (o : OutletNo) (tag : Tag) : (c.bindTag o tag).outcomes = c.outcomes := rfl
@[simp] theorem Cabinet.bindTag_nextSerial (c : Cabinet) (o : OutletNo) (tag : Tag) : (c.bindTag o tag).nextSerial = c.nextSerial := rfl
@[simp] theorem Cabinet.bindTag_outlets (c : Cabinet) (o : OutletNo) (tag : Tag) : (c.bindTag o tag).outlets = c.outlets := rfl
@[simp] theorem Cabinet.bindTag_quiesce (c : Cabinet) (o : OutletNo) (tag : Tag) : (c.bindTag o tag).quiesce = c.quiesce := rfl
@[simp] theorem Cabinet.bindTag_notices (c : Cabinet) (o : OutletNo) (tag : Tag) : (c.bindTag o tag).notices = c.notices := rfl
@[simp] theorem Cabinet.bindTag_freeCount (c : Cabinet) (o : OutletNo) (tag : Tag) : (c.bindTag o tag).freeCount = c.freeCount := rfl

@[simp] theorem Cabinet.unbind_outcomes (c : Cabinet) (o : OutletNo) : (c.unbind o).outcomes = c.outcomes := rfl
@[simp] theorem Cabinet.unbind_nextSerial (c : Cabinet) (o : OutletNo) : (c.unbind o).nextSerial = c.nextSerial := rfl
@[simp] theorem Cabinet.unbind_outlets (c : Cabinet) (o : OutletNo) : (c.unbind o).outlets = c.outlets := rfl
@[simp] theorem Cabinet.unbind_quiesce (c : Cabinet) (o : OutletNo) : (c.unbind o).quiesce = c.quiesce := rfl
@[simp] theorem Cabinet.unbind_notices (c : Cabinet) (o : OutletNo) : (c.unbind o).notices = c.notices := rfl
@[simp] theorem Cabinet.unbind_freeCount (c : Cabinet) (o : OutletNo) : (c.unbind o).freeCount = c.freeCount := rfl

@[simp] theorem Cabinet.zeroGrant_book (env : Env) (c : Cabinet) (o : OutletNo) : (c.zeroGrant env o).book = c.book := rfl
@[simp] theorem Cabinet.zeroGrant_outcomes (env : Env) (c : Cabinet) (o : OutletNo) : (c.zeroGrant env o).outcomes = c.outcomes := rfl
@[simp] theorem Cabinet.zeroGrant_nextSerial (env : Env) (c : Cabinet) (o : OutletNo) : (c.zeroGrant env o).nextSerial = c.nextSerial := rfl
@[simp] theorem Cabinet.zeroGrant_quiesce (env : Env) (c : Cabinet) (o : OutletNo) : (c.zeroGrant env o).quiesce = c.quiesce := rfl
@[simp] theorem Cabinet.zeroGrant_notices (env : Env) (c : Cabinet) (o : OutletNo) : (c.zeroGrant env o).notices = c.notices := rfl
@[simp] theorem Cabinet.zeroGrant_freeCount (env : Env) (c : Cabinet) (o : OutletNo) : (c.zeroGrant env o).freeCount = c.freeCount := rfl

@[simp] theorem Cabinet.releaseDeferred_book (env : Env) (c : Cabinet) : (c.releaseDeferred env).book = c.book := rfl
@[simp] theorem Cabinet.releaseDeferred_outcomes (env : Env) (c : Cabinet) : (c.releaseDeferred env).outcomes = c.outcomes := rfl
@[simp] theorem Cabinet.releaseDeferred_nextSerial (env : Env) (c : Cabinet) : (c.releaseDeferred env).nextSerial = c.nextSerial := rfl
@[simp] theorem Cabinet.releaseDeferred_quiesce (env : Env) (c : Cabinet) : (c.releaseDeferred env).quiesce = c.quiesce := rfl
@[simp] theorem Cabinet.releaseDeferred_notices (env : Env) (c : Cabinet) : (c.releaseDeferred env).notices = c.notices := rfl
@[simp] theorem Cabinet.releaseDeferred_freeCount (env : Env) (c : Cabinet) : (c.releaseDeferred env).freeCount = c.freeCount := rfl

@[simp] theorem Cabinet.stopRelease_book (env : Env) (c : Cabinet) : (c.stopRelease env).book = c.book := rfl
@[simp] theorem Cabinet.stopRelease_outcomes (env : Env) (c : Cabinet) : (c.stopRelease env).outcomes = c.outcomes := rfl
@[simp] theorem Cabinet.stopRelease_nextSerial (env : Env) (c : Cabinet) : (c.stopRelease env).nextSerial = c.nextSerial := rfl
@[simp] theorem Cabinet.stopRelease_quiesce (env : Env) (c : Cabinet) : (c.stopRelease env).quiesce = c.quiesce := rfl
@[simp] theorem Cabinet.stopRelease_notices (env : Env) (c : Cabinet) : (c.stopRelease env).notices = c.notices := rfl
@[simp] theorem Cabinet.stopRelease_freeCount (env : Env) (c : Cabinet) : (c.stopRelease env).freeCount = c.freeCount := rfl

@[simp] theorem Cabinet.recordSnapshot_outcomes (c : Cabinet) (o : OutletNo) (n : Nat) : (c.recordSnapshot o n).outcomes = c.outcomes := rfl
@[simp] theorem Cabinet.recordSnapshot_nextSerial (c : Cabinet) (o : OutletNo) (n : Nat) : (c.recordSnapshot o n).nextSerial = c.nextSerial := rfl
@[simp] theorem Cabinet.recordSnapshot_outlets (c : Cabinet) (o : OutletNo) (n : Nat) : (c.recordSnapshot o n).outlets = c.outlets := rfl
@[simp] theorem Cabinet.recordSnapshot_quiesce (c : Cabinet) (o : OutletNo) (n : Nat) : (c.recordSnapshot o n).quiesce = c.quiesce := rfl
@[simp] theorem Cabinet.recordSnapshot_notices (c : Cabinet) (o : OutletNo) (n : Nat) : (c.recordSnapshot o n).notices = c.notices := rfl
@[simp] theorem Cabinet.recordSnapshot_freeCount (c : Cabinet) (o : OutletNo) (n : Nat) : (c.recordSnapshot o n).freeCount = c.freeCount := rfl

/-! ## Sessions, grants, entries -/

@[simp] theorem Session.placeWelcome_state (x : Session) (b : QueueBody) : (x.placeWelcome b).state = x.state := rfl
@[simp] theorem Session.placeWelcome_cameFrom (x : Session) (b : QueueBody) : (x.placeWelcome b).cameFrom = x.cameFrom := rfl
@[simp] theorem Session.placeWelcome_tag (x : Session) (b : QueueBody) : (x.placeWelcome b).tag = x.tag := rfl
@[simp] theorem Session.placeWelcome_profile (x : Session) (b : QueueBody) : (x.placeWelcome b).profile = x.profile := rfl
@[simp] theorem Session.placeWelcome_cause (x : Session) (b : QueueBody) : (x.placeWelcome b).cause = x.cause := rfl
@[simp] theorem Session.placeWelcome_endReason (x : Session) (b : QueueBody) : (x.placeWelcome b).endReason = x.endReason := rfl
@[simp] theorem Session.placeWelcome_misses (x : Session) (b : QueueBody) : (x.placeWelcome b).misses = x.misses := rfl
@[simp] theorem Session.placeWelcome_lastReport (x : Session) (b : QueueBody) : (x.placeWelcome b).lastReport = x.lastReport := rfl
@[simp] theorem Session.placeWelcome_energyRef (x : Session) (b : QueueBody) : (x.placeWelcome b).energyRef = x.energyRef := rfl
@[simp] theorem Session.placeWelcome_acked (x : Session) (b : QueueBody) : (x.placeWelcome b).acked = x.acked := rfl
@[simp] theorem Session.placeWelcome_lease (x : Session) (b : QueueBody) : (x.placeWelcome b).lease = x.lease := rfl
@[simp] theorem Session.placeWelcome_leaseDue (x : Session) (b : QueueBody) : (x.placeWelcome b).leaseDue = x.leaseDue := rfl
@[simp] theorem Session.placeWelcome_overdraw (x : Session) (b : QueueBody) : (x.placeWelcome b).overdraw = x.overdraw := rfl
@[simp] theorem Session.placeWelcome_sent (x : Session) (b : QueueBody) : (x.placeWelcome b).sent = x.sent := rfl
@[simp] theorem Session.placeWelcome_channel (x : Session) (b : QueueBody) : (x.placeWelcome b).channel = x.channel := rfl
@[simp] theorem Session.placeWelcome_lastEnd (x : Session) (b : QueueBody) : (x.placeWelcome b).lastEnd = x.lastEnd := rfl
@[simp] theorem Session.placeWelcome_lastPoll (x : Session) (b : QueueBody) : (x.placeWelcome b).lastPoll = x.lastPoll := rfl

@[simp] theorem Session.placeGrant_state (x : Session) (q : Seq) (w l : Nat) : (x.placeGrant q w l).state = x.state := rfl
@[simp] theorem Session.placeGrant_cameFrom (x : Session) (q : Seq) (w l : Nat) : (x.placeGrant q w l).cameFrom = x.cameFrom := rfl
@[simp] theorem Session.placeGrant_tag (x : Session) (q : Seq) (w l : Nat) : (x.placeGrant q w l).tag = x.tag := rfl
@[simp] theorem Session.placeGrant_profile (x : Session) (q : Seq) (w l : Nat) : (x.placeGrant q w l).profile = x.profile := rfl
@[simp] theorem Session.placeGrant_cause (x : Session) (q : Seq) (w l : Nat) : (x.placeGrant q w l).cause = x.cause := rfl
@[simp] theorem Session.placeGrant_endReason (x : Session) (q : Seq) (w l : Nat) : (x.placeGrant q w l).endReason = x.endReason := rfl
@[simp] theorem Session.placeGrant_misses (x : Session) (q : Seq) (w l : Nat) : (x.placeGrant q w l).misses = x.misses := rfl
@[simp] theorem Session.placeGrant_lastReport (x : Session) (q : Seq) (w l : Nat) : (x.placeGrant q w l).lastReport = x.lastReport := rfl
@[simp] theorem Session.placeGrant_energyRef (x : Session) (q : Seq) (w l : Nat) : (x.placeGrant q w l).energyRef = x.energyRef := rfl
@[simp] theorem Session.placeGrant_acked (x : Session) (q : Seq) (w l : Nat) : (x.placeGrant q w l).acked = x.acked := rfl
@[simp] theorem Session.placeGrant_lease (x : Session) (q : Seq) (w l : Nat) : (x.placeGrant q w l).lease = x.lease := rfl
@[simp] theorem Session.placeGrant_leaseDue (x : Session) (q : Seq) (w l : Nat) : (x.placeGrant q w l).leaseDue = x.leaseDue := rfl
@[simp] theorem Session.placeGrant_overdraw (x : Session) (q : Seq) (w l : Nat) : (x.placeGrant q w l).overdraw = x.overdraw := rfl
@[simp] theorem Session.placeGrant_sent (x : Session) (q : Seq) (w l : Nat) : (x.placeGrant q w l).sent = x.sent := rfl
@[simp] theorem Session.placeGrant_channel (x : Session) (q : Seq) (w l : Nat) : (x.placeGrant q w l).channel = x.channel := rfl
@[simp] theorem Session.placeGrant_lastEnd (x : Session) (q : Seq) (w l : Nat) : (x.placeGrant q w l).lastEnd = x.lastEnd := rfl
@[simp] theorem Session.placeGrant_lastPoll (x : Session) (q : Seq) (w l : Nat) : (x.placeGrant q w l).lastPoll = x.lastPoll := rfl

@[simp] theorem Session.placeStop_state (x : Session) (q : Seq) (l : Nat) : (x.placeStop q l).state = x.state := rfl
@[simp] theorem Session.placeStop_cameFrom (x : Session) (q : Seq) (l : Nat) : (x.placeStop q l).cameFrom = x.cameFrom := rfl
@[simp] theorem Session.placeStop_tag (x : Session) (q : Seq) (l : Nat) : (x.placeStop q l).tag = x.tag := rfl
@[simp] theorem Session.placeStop_profile (x : Session) (q : Seq) (l : Nat) : (x.placeStop q l).profile = x.profile := rfl
@[simp] theorem Session.placeStop_cause (x : Session) (q : Seq) (l : Nat) : (x.placeStop q l).cause = x.cause := rfl
@[simp] theorem Session.placeStop_endReason (x : Session) (q : Seq) (l : Nat) : (x.placeStop q l).endReason = x.endReason := rfl
@[simp] theorem Session.placeStop_misses (x : Session) (q : Seq) (l : Nat) : (x.placeStop q l).misses = x.misses := rfl
@[simp] theorem Session.placeStop_lastReport (x : Session) (q : Seq) (l : Nat) : (x.placeStop q l).lastReport = x.lastReport := rfl
@[simp] theorem Session.placeStop_energyRef (x : Session) (q : Seq) (l : Nat) : (x.placeStop q l).energyRef = x.energyRef := rfl
@[simp] theorem Session.placeStop_acked (x : Session) (q : Seq) (l : Nat) : (x.placeStop q l).acked = x.acked := rfl
@[simp] theorem Session.placeStop_lease (x : Session) (q : Seq) (l : Nat) : (x.placeStop q l).lease = x.lease := rfl
@[simp] theorem Session.placeStop_leaseDue (x : Session) (q : Seq) (l : Nat) : (x.placeStop q l).leaseDue = x.leaseDue := rfl
@[simp] theorem Session.placeStop_overdraw (x : Session) (q : Seq) (l : Nat) : (x.placeStop q l).overdraw = x.overdraw := rfl
@[simp] theorem Session.placeStop_sent (x : Session) (q : Seq) (l : Nat) : (x.placeStop q l).sent = x.sent := rfl
@[simp] theorem Session.placeStop_channel (x : Session) (q : Seq) (l : Nat) : (x.placeStop q l).channel = x.channel := rfl
@[simp] theorem Session.placeStop_lastEnd (x : Session) (q : Seq) (l : Nat) : (x.placeStop q l).lastEnd = x.lastEnd := rfl
@[simp] theorem Session.placeStop_lastPoll (x : Session) (q : Seq) (l : Nat) : (x.placeStop q l).lastPoll = x.lastPoll := rfl

@[simp] theorem Session.endExchange_state (x : Session) (now : Nat) : (x.endExchange now).state = x.state := rfl
@[simp] theorem Session.endExchange_cameFrom (x : Session) (now : Nat) : (x.endExchange now).cameFrom = x.cameFrom := rfl
@[simp] theorem Session.endExchange_tag (x : Session) (now : Nat) : (x.endExchange now).tag = x.tag := rfl
@[simp] theorem Session.endExchange_profile (x : Session) (now : Nat) : (x.endExchange now).profile = x.profile := rfl
@[simp] theorem Session.endExchange_cause (x : Session) (now : Nat) : (x.endExchange now).cause = x.cause := rfl
@[simp] theorem Session.endExchange_endReason (x : Session) (now : Nat) : (x.endExchange now).endReason = x.endReason := rfl
@[simp] theorem Session.endExchange_misses (x : Session) (now : Nat) : (x.endExchange now).misses = x.misses := rfl
@[simp] theorem Session.endExchange_lastReport (x : Session) (now : Nat) : (x.endExchange now).lastReport = x.lastReport := rfl
@[simp] theorem Session.endExchange_energyRef (x : Session) (now : Nat) : (x.endExchange now).energyRef = x.energyRef := rfl
@[simp] theorem Session.endExchange_acked (x : Session) (now : Nat) : (x.endExchange now).acked = x.acked := rfl
@[simp] theorem Session.endExchange_lease (x : Session) (now : Nat) : (x.endExchange now).lease = x.lease := rfl
@[simp] theorem Session.endExchange_leaseDue (x : Session) (now : Nat) : (x.endExchange now).leaseDue = x.leaseDue := rfl
@[simp] theorem Session.endExchange_overdraw (x : Session) (now : Nat) : (x.endExchange now).overdraw = x.overdraw := rfl
@[simp] theorem Session.endExchange_sent (x : Session) (now : Nat) : (x.endExchange now).sent = x.sent := rfl
@[simp] theorem Session.endExchange_queue (x : Session) (now : Nat) : (x.endExchange now).queue = x.queue := rfl
@[simp] theorem Session.endExchange_channel (x : Session) (now : Nat) : (x.endExchange now).channel = .idle := rfl
@[simp] theorem Session.endExchange_lastEnd (x : Session) (now : Nat) : (x.endExchange now).lastEnd = some now := rfl
@[simp] theorem Session.endExchange_lastPoll (x : Session) (now : Nat) : (x.endExchange now).lastPoll = x.lastPoll := rfl

@[simp] theorem Session.goodReply_state (x : Session) (f : QueueRecord → Bool) (now : Nat) : (x.goodReply f now).state = x.state := rfl
@[simp] theorem Session.goodReply_cameFrom (x : Session) (f : QueueRecord → Bool) (now : Nat) : (x.goodReply f now).cameFrom = x.cameFrom := rfl
@[simp] theorem Session.goodReply_tag (x : Session) (f : QueueRecord → Bool) (now : Nat) : (x.goodReply f now).tag = x.tag := rfl
@[simp] theorem Session.goodReply_profile (x : Session) (f : QueueRecord → Bool) (now : Nat) : (x.goodReply f now).profile = x.profile := rfl
@[simp] theorem Session.goodReply_cause (x : Session) (f : QueueRecord → Bool) (now : Nat) : (x.goodReply f now).cause = x.cause := rfl
@[simp] theorem Session.goodReply_endReason (x : Session) (f : QueueRecord → Bool) (now : Nat) : (x.goodReply f now).endReason = x.endReason := rfl
@[simp] theorem Session.goodReply_misses (x : Session) (f : QueueRecord → Bool) (now : Nat) : (x.goodReply f now).misses = 0 := rfl
@[simp] theorem Session.goodReply_lastReport (x : Session) (f : QueueRecord → Bool) (now : Nat) : (x.goodReply f now).lastReport = x.lastReport := rfl
@[simp] theorem Session.goodReply_energyRef (x : Session) (f : QueueRecord → Bool) (now : Nat) : (x.goodReply f now).energyRef = x.energyRef := rfl
@[simp] theorem Session.goodReply_acked (x : Session) (f : QueueRecord → Bool) (now : Nat) : (x.goodReply f now).acked = x.acked := rfl
@[simp] theorem Session.goodReply_lease (x : Session) (f : QueueRecord → Bool) (now : Nat) : (x.goodReply f now).lease = x.lease := rfl
@[simp] theorem Session.goodReply_leaseDue (x : Session) (f : QueueRecord → Bool) (now : Nat) : (x.goodReply f now).leaseDue = x.leaseDue := rfl
@[simp] theorem Session.goodReply_overdraw (x : Session) (f : QueueRecord → Bool) (now : Nat) : (x.goodReply f now).overdraw = x.overdraw := rfl
@[simp] theorem Session.goodReply_sent (x : Session) (f : QueueRecord → Bool) (now : Nat) : (x.goodReply f now).sent = x.sent := rfl
@[simp] theorem Session.goodReply_channel (x : Session) (f : QueueRecord → Bool) (now : Nat) : (x.goodReply f now).channel = .idle := rfl
@[simp] theorem Session.goodReply_lastEnd (x : Session) (f : QueueRecord → Bool) (now : Nat) : (x.goodReply f now).lastEnd = some now := rfl
@[simp] theorem Session.goodReply_lastPoll (x : Session) (f : QueueRecord → Bool) (now : Nat) : (x.goodReply f now).lastPoll = x.lastPoll := rfl

@[simp] theorem Session.sendPoll_state (x : Session) (now : Nat) : (x.sendPoll now).state = x.state := rfl
@[simp] theorem Session.sendPoll_cameFrom (x : Session) (now : Nat) : (x.sendPoll now).cameFrom = x.cameFrom := rfl
@[simp] theorem Session.sendPoll_tag (x : Session) (now : Nat) : (x.sendPoll now).tag = x.tag := rfl
@[simp] theorem Session.sendPoll_profile (x : Session) (now : Nat) : (x.sendPoll now).profile = x.profile := rfl
@[simp] theorem Session.sendPoll_cause (x : Session) (now : Nat) : (x.sendPoll now).cause = x.cause := rfl
@[simp] theorem Session.sendPoll_endReason (x : Session) (now : Nat) : (x.sendPoll now).endReason = x.endReason := rfl
@[simp] theorem Session.sendPoll_misses (x : Session) (now : Nat) : (x.sendPoll now).misses = x.misses := rfl
@[simp] theorem Session.sendPoll_lastReport (x : Session) (now : Nat) : (x.sendPoll now).lastReport = x.lastReport := rfl
@[simp] theorem Session.sendPoll_energyRef (x : Session) (now : Nat) : (x.sendPoll now).energyRef = x.energyRef := rfl
@[simp] theorem Session.sendPoll_acked (x : Session) (now : Nat) : (x.sendPoll now).acked = x.acked := rfl
@[simp] theorem Session.sendPoll_lease (x : Session) (now : Nat) : (x.sendPoll now).lease = x.lease := rfl
@[simp] theorem Session.sendPoll_leaseDue (x : Session) (now : Nat) : (x.sendPoll now).leaseDue = x.leaseDue := rfl
@[simp] theorem Session.sendPoll_overdraw (x : Session) (now : Nat) : (x.sendPoll now).overdraw = x.overdraw := rfl
@[simp] theorem Session.sendPoll_sent (x : Session) (now : Nat) : (x.sendPoll now).sent = x.sent := rfl
@[simp] theorem Session.sendPoll_queue (x : Session) (now : Nat) : (x.sendPoll now).queue = x.queue := rfl
@[simp] theorem Session.sendPoll_channel (x : Session) (now : Nat) : (x.sendPoll now).channel = .inFlight false (outletFrame kindPoll []) := rfl
@[simp] theorem Session.sendPoll_lastEnd (x : Session) (now : Nat) : (x.sendPoll now).lastEnd = x.lastEnd := rfl
@[simp] theorem Session.sendPoll_lastPoll (x : Session) (now : Nat) : (x.sendPoll now).lastPoll = some now := rfl

@[simp] theorem Outlet.dropDeferred_plug (out : Outlet) : (out.dropDeferred).plug = out.plug := rfl
@[simp] theorem Outlet.dropDeferred_session (out : Outlet) : (out.dropDeferred).session = out.session := rfl
@[simp] theorem Outlet.dropDeferred_grants (out : Outlet) : (out.dropDeferred).grants = { out.grants with deferred := none } := rfl
@[simp] theorem Outlet.dropDeferred_residual (out : Outlet) : (out.dropDeferred).residual = out.residual := rfl
@[simp] theorem Outlet.dropDeferred_residualDue (out : Outlet) : (out.dropDeferred).residualDue = out.residualDue := rfl

@[simp] theorem Outlet.releaseGrant_plug (out : Outlet) (l w : Nat) : (out.releaseGrant l w).plug = out.plug := rfl
@[simp] theorem Outlet.releaseGrant_session (out : Outlet) (l w : Nat) : (out.releaseGrant l w).session = out.session.placeGrant out.grants.nextSeq w l := rfl
@[simp] theorem Outlet.releaseGrant_grants (out : Outlet) (l w : Nat) : (out.releaseGrant l w).grants = out.grants.release w := rfl
@[simp] theorem Outlet.releaseGrant_residual (out : Outlet) (l w : Nat) : (out.releaseGrant l w).residual = out.residual := rfl
@[simp] theorem Outlet.releaseGrant_residualDue (out : Outlet) (l w : Nat) : (out.releaseGrant l w).residualDue = out.residualDue := rfl

@[simp] theorem Outlet.releaseStop_plug (out : Outlet) (l : Nat) : (out.releaseStop l).plug = out.plug := rfl
@[simp] theorem Outlet.releaseStop_session (out : Outlet) (l : Nat) : (out.releaseStop l).session = out.session.placeStop out.grants.nextSeq l := rfl
@[simp] theorem Outlet.releaseStop_grants (out : Outlet) (l : Nat) : (out.releaseStop l).grants = out.grants.release 0 := rfl
@[simp] theorem Outlet.releaseStop_residual (out : Outlet) (l : Nat) : (out.releaseStop l).residual = out.residual := rfl
@[simp] theorem Outlet.releaseStop_residualDue (out : Outlet) (l : Nat) : (out.releaseStop l).residualDue = out.residualDue := rfl

@[simp] theorem GrantRow.release_released (g : GrantRow) (w : Nat) : (g.release w).released = w := rfl
@[simp] theorem GrantRow.release_lastSeq (g : GrantRow) (w : Nat) : (g.release w).lastSeq = g.nextSeq := rfl
@[simp] theorem GrantRow.release_nextSeq (g : GrantRow) (w : Nat) : (g.release w).nextSeq = g.nextSeq + 1 := rfl
@[simp] theorem GrantRow.release_deferred (g : GrantRow) (w : Nat) : (g.release w).deferred = g.deferred := rfl
@[simp] theorem GrantRow.release_mark (g : GrantRow) (w : Nat) : (g.release w).mark = g.mark := rfl

@[simp] theorem Entry.toBooked_number (e : Entry) : (e.toBooked).number = e.number := rfl
@[simp] theorem Entry.toBooked_tag (e : Entry) : (e.toBooked).tag = e.tag := rfl
@[simp] theorem Entry.toBooked_booking (e : Entry) : (e.toBooked).booking = e.booking := rfl
@[simp] theorem Entry.toBooked_target (e : Entry) : (e.toBooked).target = e.target := rfl
@[simp] theorem Entry.toBooked_grace (e : Entry) : (e.toBooked).grace = e.grace := rfl
@[simp] theorem Entry.toBooked_next (e : Entry) : (e.toBooked).next = e.next := rfl
@[simp] theorem Entry.toBooked_state (e : Entry) : (e.toBooked).state = .booked := rfl
@[simp] theorem Entry.toBooked_bound (e : Entry) : (e.toBooked).bound = e.bound := rfl
@[simp] theorem Entry.toBooked_occurrenceOutlet (e : Entry) : (e.toBooked).occurrenceOutlet = e.occurrenceOutlet := rfl
@[simp] theorem Entry.toBooked_plan (e : Entry) : (e.toBooked).plan = none := rfl
@[simp] theorem Entry.toBooked_exec (e : Entry) : (e.toBooked).exec = e.exec := rfl
@[simp] theorem Entry.toBooked_unreachable (e : Entry) : (e.toBooked).unreachable = e.unreachable := rfl

@[simp] theorem Entry.newOccurrence_number (e : Entry) (t : Nat) : (e.newOccurrence t).number = e.number := rfl
@[simp] theorem Entry.newOccurrence_tag (e : Entry) (t : Nat) : (e.newOccurrence t).tag = e.tag := rfl
@[simp] theorem Entry.newOccurrence_booking (e : Entry) (t : Nat) : (e.newOccurrence t).booking = e.booking := rfl
@[simp] theorem Entry.newOccurrence_target (e : Entry) (t : Nat) : (e.newOccurrence t).target = e.target := rfl
@[simp] theorem Entry.newOccurrence_grace (e : Entry) (t : Nat) : (e.newOccurrence t).grace = e.grace := rfl
@[simp] theorem Entry.newOccurrence_next (e : Entry) (t : Nat) : (e.newOccurrence t).next = some t := rfl
@[simp] theorem Entry.newOccurrence_state (e : Entry) (t : Nat) : (e.newOccurrence t).state = e.state := rfl
@[simp] theorem Entry.newOccurrence_bound (e : Entry) (t : Nat) : (e.newOccurrence t).bound = e.bound := rfl
@[simp] theorem Entry.newOccurrence_occurrenceOutlet (e : Entry) (t : Nat) : (e.newOccurrence t).occurrenceOutlet = e.bound := rfl
@[simp] theorem Entry.newOccurrence_plan (e : Entry) (t : Nat) : (e.newOccurrence t).plan = e.plan := rfl
@[simp] theorem Entry.newOccurrence_exec (e : Entry) (t : Nat) : (e.newOccurrence t).exec = none := rfl
@[simp] theorem Entry.newOccurrence_unreachable (e : Entry) (t : Nat) : (e.newOccurrence t).unreachable = false := rfl

@[simp] theorem Entry.withPlan_number (e : Entry) (p : Plan) : (e.withPlan p).number = e.number := rfl
@[simp] theorem Entry.withPlan_tag (e : Entry) (p : Plan) : (e.withPlan p).tag = e.tag := rfl
@[simp] theorem Entry.withPlan_booking (e : Entry) (p : Plan) : (e.withPlan p).booking = e.booking := rfl
@[simp] theorem Entry.withPlan_target (e : Entry) (p : Plan) : (e.withPlan p).target = e.target := rfl
@[simp] theorem Entry.withPlan_grace (e : Entry) (p : Plan) : (e.withPlan p).grace = e.grace := rfl
@[simp] theorem Entry.withPlan_next (e : Entry) (p : Plan) : (e.withPlan p).next = e.next := rfl
@[simp] theorem Entry.withPlan_state (e : Entry) (p : Plan) : (e.withPlan p).state = e.state := rfl
@[simp] theorem Entry.withPlan_bound (e : Entry) (p : Plan) : (e.withPlan p).bound = e.bound := rfl
@[simp] theorem Entry.withPlan_occurrenceOutlet (e : Entry) (p : Plan) : (e.withPlan p).occurrenceOutlet = e.occurrenceOutlet := rfl
@[simp] theorem Entry.withPlan_plan (e : Entry) (p : Plan) : (e.withPlan p).plan = some p := rfl
@[simp] theorem Entry.withPlan_unreachable (e : Entry) (p : Plan) : (e.withPlan p).unreachable = (e.unreachable || p.isUnreachable) := rfl

@[simp] theorem Entry.restart_number (e : Entry) : (e.restart).number = e.number := rfl
@[simp] theorem Entry.restart_tag (e : Entry) : (e.restart).tag = e.tag := rfl
@[simp] theorem Entry.restart_booking (e : Entry) : (e.restart).booking = e.booking := rfl
@[simp] theorem Entry.restart_target (e : Entry) : (e.restart).target = e.target := rfl
@[simp] theorem Entry.restart_grace (e : Entry) : (e.restart).grace = e.grace := rfl
@[simp] theorem Entry.restart_next (e : Entry) : (e.restart).next = e.next := rfl
@[simp] theorem Entry.restart_state (e : Entry) : (e.restart).state = .booked := rfl
@[simp] theorem Entry.restart_bound (e : Entry) : (e.restart).bound = none := rfl
@[simp] theorem Entry.restart_occurrenceOutlet (e : Entry) : (e.restart).occurrenceOutlet = e.occurrenceOutlet := rfl
@[simp] theorem Entry.restart_plan (e : Entry) : (e.restart).plan = none := rfl
@[simp] theorem Entry.restart_exec (e : Entry) : (e.restart).exec = e.exec := rfl
@[simp] theorem Entry.restart_unreachable (e : Entry) : (e.restart).unreachable = e.unreachable := rfl

/-! ## Notices -/

@[simp] theorem Notices.follow_pending (n : Notices) : (n.follow).pending = n.pending := rfl
@[simp] theorem Notices.follow_reported (n : Notices) : (n.follow).reported = n.reported := rfl
@[simp] theorem Notices.follow_enabled (n : Notices) : (n.follow).enabled = n.enabled := rfl
@[simp] theorem Notices.follow_attention (n : Notices) : (n.follow).attention = (n.pending &&& n.enabled != 0) := rfl

@[simp] theorem Notices.raise_pending (n : Notices) (k : NoticeClass) : (n.raise k).pending = n.pending ||| k.bit := rfl
@[simp] theorem Notices.raise_reported (n : Notices) (k : NoticeClass) : (n.raise k).reported = n.reported &&& ~~~k.bit := rfl
@[simp] theorem Notices.raise_enabled (n : Notices) (k : NoticeClass) : (n.raise k).enabled = n.enabled := rfl
@[simp] theorem Notices.raise_attention (n : Notices) (k : NoticeClass) : (n.raise k).attention = ((n.pending ||| k.bit) &&& n.enabled != 0) := rfl

@[simp] theorem Notices.markReported_pending (n : Notices) : (n.markReported).pending = n.pending := rfl
@[simp] theorem Notices.markReported_reported (n : Notices) : (n.markReported).reported = n.pending := rfl
@[simp] theorem Notices.markReported_enabled (n : Notices) : (n.markReported).enabled = n.enabled := rfl
@[simp] theorem Notices.markReported_attention (n : Notices) : (n.markReported).attention = n.attention := rfl

end Sys2Proof.Machine
end

