-- ==== Sys2Proof/Laws/Tables.lean ====
section
/-!
SUPPORT. The tables of fixed size: what an entry reads after a replacement, a map or a fill, and the eight outlet numbers.
-/

namespace Sys2Proof

variable {α β : Type}

@[simp] theorem Eight.get_set_self (e : Eight α) (o : OutletNo) (v : α) : (e.set o v).get o = v := by
  unfold Eight.set Eight.get; split <;> rfl

theorem Eight.get_set_of_ne (e : Eight α) {o p : OutletNo} (v : α) (h : p ≠ o) : (e.set o v).get p = e.get p := by
  revert h; unfold Eight.set Eight.get; split <;> split <;> simp_all

theorem Eight.get_set (e : Eight α) (o p : OutletNo) (v : α) : (e.set o v).get p = if p = o then v else e.get p := by
  split
  · next h => subst h; exact Eight.get_set_self e p v
  · next h => exact Eight.get_set_of_ne e v h

@[simp] theorem Eight.get_map (f : α → β) (e : Eight α) (o : OutletNo) : (e.map f).get o = f (e.get o) := by
  unfold Eight.map Eight.get; split <;> rfl

@[simp] theorem Eight.get_all (v : α) (o : OutletNo) : (Eight.all v).get o = v := by
  unfold Eight.all Eight.get; split <;> rfl

/-- Two tables that read the same at every outlet are the same. -/
theorem Eight.ext_get {e f : Eight α} (h : ∀ o, e.get o = f.get o) : e = f := by
  cases e; cases f
  have h0 := h 0; have h1 := h 1; have h2 := h 2; have h3 := h 3
  have h4 := h 4; have h5 := h 5; have h6 := h 6; have h7 := h 7
  simp only [Eight.get] at h0 h1 h2 h3 h4 h5 h6 h7
  simp [*]

@[simp] theorem Eight.set_get_self (e : Eight α) (o : OutletNo) : e.set o (e.get o) = e :=
  Eight.ext_get fun p => by rw [Eight.get_set]; split <;> simp_all

@[simp] theorem mem_outletNumbers (o : OutletNo) : o ∈ outletNumbers := by revert o; decide

/-- The entries in order are the reads in order. -/
theorem Eight.toList_eq_map (e : Eight α) : e.toList = outletNumbers.map e.get := rfl

theorem Eight.mem_toList {e : Eight α} {v : α} : v ∈ e.toList ↔ ∃ o, e.get o = v := by
  rw [Eight.toList_eq_map, List.mem_map]
  constructor
  · rintro ⟨o, -, h⟩; exact ⟨o, h⟩
  · rintro ⟨o, h⟩; exact ⟨o, mem_outletNumbers o, h⟩

theorem outletNumbers_nodup : outletNumbers.Nodup := by decide

@[simp] theorem Sixteen.get_all (v : α) (p : SlotNo) : (Sixteen.all v).get p = v := by
  unfold Sixteen.all Sixteen.get; split <;> simp

@[simp] theorem Sixteen.get_set_self (t : Sixteen α) (p : SlotNo) (v : α) : (t.set p v).get p = v := by
  unfold Sixteen.set Sixteen.get; split <;> simp_all

theorem Sixteen.get_set_of_ne (t : Sixteen α) {p q : SlotNo} (v : α) (h : q ≠ p) : (t.set p v).get q = t.get q := by
  have hv : q.val ≠ p.val := fun e => h (Fin.ext e)
  unfold Sixteen.set Sixteen.get
  by_cases hp : p.val < 8 <;> by_cases hq : q.val < 8 <;> simp only [hp, hq, dif_pos, dif_neg, not_false_eq_true]
  · exact Eight.get_set_of_ne _ _ fun e => hv (Fin.mk.inj e)
  · exact Eight.get_set_of_ne _ _ fun e => hv (by have := Fin.mk.inj e; omega)

end Sys2Proof
end

