-- ==== Sys2Proof/Laws/Ops.lean ====
section
/-!
SUPPORT. What the shared operations do: reads after updates, requests and bytes that reach the port, what an outlet link carried, the tests
over all outlets, the notice marks.
-/

namespace Sys2Proof.Machine

/-! ## Outlets and sessions -/

@[simp] theorem Cabinet.outlet_updOutlet_self (c : Cabinet) (o : OutletNo) (f : Outlet → Outlet) :
    (c.updOutlet o f).outlet o = f (c.outlet o) := by simp [Cabinet.outlet]

theorem Cabinet.outlet_updOutlet_of_ne (c : Cabinet) {o p : OutletNo} (f : Outlet → Outlet) (h : p ≠ o) :
    (c.updOutlet o f).outlet p = c.outlet p := by simp [Cabinet.outlet, Eight.get_set_of_ne _ _ h]

theorem Cabinet.outlet_updOutlet (c : Cabinet) (o p : OutletNo) (f : Outlet → Outlet) :
    (c.updOutlet o f).outlet p = if p = o then f (c.outlet p) else c.outlet p := by
  split
  · next h => subst h; simp
  · next h => exact c.outlet_updOutlet_of_ne f h

@[simp] theorem Cabinet.session_updSession_self (c : Cabinet) (o : OutletNo) (f : Session → Session) :
    (c.updSession o f).session o = f (c.session o) := by simp [Cabinet.session, Cabinet.updSession]

theorem Cabinet.session_updSession_of_ne (c : Cabinet) {o p : OutletNo} (f : Session → Session) (h : p ≠ o) :
    (c.updSession o f).session p = c.session p := by
  simp [Cabinet.session, Cabinet.updSession, Cabinet.outlet_updOutlet_of_ne _ _ h]

@[simp] theorem Cabinet.outlet_map (c : Cabinet) (f : Outlet → Outlet) (o : OutletNo) :
    ({ c with outlets := c.outlets.map f } : Cabinet).outlet o = f (c.outlet o) := by simp [Cabinet.outlet]

@[simp] theorem Cabinet.outlet_raise (c : Cabinet) (n : NoticeClass) (o : OutletNo) : (c.raise n).outlet o = c.outlet o := rfl

@[simp] theorem Cabinet.outlet_updEntry (c : Cabinet) (n : Nat) (f : Entry → Entry) (o : OutletNo) :
    (c.updEntry n f).outlet o = c.outlet o := rfl

@[simp] theorem Cabinet.outlet_removeEntry (c : Cabinet) (n : Nat) (o : OutletNo) : (c.removeEntry n).outlet o = c.outlet o := rfl

/-- An update that changes nothing at its outlet changes nothing. -/
theorem Cabinet.updOutlet_eq_self (c : Cabinet) (o : OutletNo) (f : Outlet → Outlet) (h : f (c.outlet o) = c.outlet o) :
    c.updOutlet o f = c := by
  unfold Cabinet.updOutlet
  rw [h]
  simp [Cabinet.outlet]

/-- No outlet holds a grant exactly when the count of those that do is zero (R164). -/
theorem Cabinet.holdingCount_eq_zero (c : Cabinet) : c.holdingCount = 0 ↔ ∀ o, (c.outlet o).holdsGrant = false := by
  unfold Cabinet.holdingCount
  rw [List.length_eq_zero_iff, List.filter_eq_nil_iff]
  constructor
  · intro h o; simpa using h (c.outlet o) (Eight.mem_toList.2 ⟨o, rfl⟩)
  · intro h out hout
    obtain ⟨o, rfl⟩ := Eight.mem_toList.1 hout
    simpa [Cabinet.outlet] using h o

/-- The reduction-pending set is empty exactly when no outlet has a mark (R102). -/
theorem Cabinet.reductionSetEmpty_iff (c : Cabinet) : c.reductionSetEmpty = true ↔ ∀ o, (c.outlet o).grants.mark = none := by
  unfold Cabinet.reductionSetEmpty
  rw [List.all_eq_true]
  constructor
  · intro h o; simpa using h (c.outlet o) (Eight.mem_toList.2 ⟨o, rfl⟩)
  · intro h out hout
    obtain ⟨o, rfl⟩ := Eight.mem_toList.1 hout
    simpa [Cabinet.outlet] using h o

/-- The completion test completes a QUIESCING quiesce when no outlet holds a grant, and otherwise changes nothing (R166). -/
theorem Cabinet.completionTest_eq (c : Cabinet) :
    c.completionTest =
      if c.quiesce = .quiescing ∧ ∀ o, (c.outlet o).holdsGrant = false then
        { c with quiesce := .quiesced, notices := c.notices.raise .quiesceDone }
      else c := by
  unfold Cabinet.completionTest
  split
  · next h => simp only [h, true_and, Cabinet.holdingCount_eq_zero]; rfl
  · next h => simp [h]
  · next h => simp [h]

@[simp] theorem Cabinet.completionTest_book (c : Cabinet) : c.completionTest.book = c.book := by
  rw [Cabinet.completionTest_eq]; split <;> rfl

@[simp] theorem Cabinet.completionTest_outlets (c : Cabinet) : c.completionTest.outlets = c.outlets := by
  rw [Cabinet.completionTest_eq]; split <;> rfl

@[simp] theorem Cabinet.completionTest_outcomes (c : Cabinet) : c.completionTest.outcomes = c.outcomes := by
  rw [Cabinet.completionTest_eq]; split <;> rfl

/-- Leaving the reduction-pending set (R103): the mark goes, and when no other outlet has one every deferred raise is released. -/
theorem Cabinet.leaveReductionSet_outlet (env : Env) (c : Cabinet) (o p : OutletNo) (m : Seq)
    (h : (c.outlet o).grants.mark = some m) :
    (c.leaveReductionSet env o).outlet p =
      (let out := if p = o then { c.outlet p with grants := { (c.outlet p).grants with mark := none } } else c.outlet p
       if (∀ x, x ≠ o → (c.outlet x).grants.mark = none) then out.releaseDeferred env.lease else out) := by
  have hempty : (c.updGrants o fun g => { g with mark := none }).reductionSetEmpty = true ↔
      ∀ x, x ≠ o → (c.outlet x).grants.mark = none := by
    rw [Cabinet.reductionSetEmpty_iff]
    refine forall_congr' fun x => ?_
    by_cases hx : x = o <;> simp [Cabinet.updGrants, Cabinet.outlet_updOutlet, hx]
  have hout : (c.updGrants o fun g => { g with mark := none }).outlet p =
      if p = o then { c.outlet p with grants := { (c.outlet p).grants with mark := none } } else c.outlet p := by
    simp [Cabinet.updGrants, Cabinet.outlet_updOutlet]
  unfold Cabinet.leaveReductionSet
  rw [h]
  by_cases hall : ∀ x, x ≠ o → (c.outlet x).grants.mark = none
  · simp only [hempty.2 hall, if_true, if_pos hall]
    rw [← hout]; exact Eight.get_map _ _ _
  · have hne : ¬ (c.updGrants o fun g => { g with mark := none }).reductionSetEmpty = true := fun e => hall (hempty.1 e)
    simp only [hne, if_neg hall]
    exact hout

/-- An outlet outside the reduction-pending set has nothing to leave. -/
theorem Cabinet.leaveReductionSet_of_none (env : Env) (c : Cabinet) (o : OutletNo) (h : (c.outlet o).grants.mark = none) :
    c.leaveReductionSet env o = c := by
  unfold Cabinet.leaveReductionSet; rw [h]

/-! ## The book -/

/-- What `entry?` finds is in the book under that number. -/
theorem Cabinet.entry?_some {c : Cabinet} {n : Nat} {e : Entry} (h : c.entry? n = some e) : e ∈ c.book ∧ e.number = n := by
  unfold Cabinet.entry? at h
  exact ⟨List.mem_of_find?_eq_some h, by simpa using List.find?_some h⟩

/-- What `leadOf` finds is in the book, bound to the outlet, and a lead. -/
theorem Cabinet.leadOf_some {c : Cabinet} {o : OutletNo} {e : Entry} (h : c.leadOf o = some e) :
    e ∈ c.book ∧ e.bound = some o ∧ e.isLead = true := by
  unfold Cabinet.leadOf at h
  have hp := List.find?_some h
  simp at hp
  exact ⟨List.mem_of_find?_eq_some h, hp⟩

theorem Cabinet.mem_updEntry {c : Cabinet} {n : Nat} {f : Entry → Entry} {e : Entry} :
    e ∈ (c.updEntry n f).book ↔ ∃ x ∈ c.book, (if x.number = n then f x else x) = e := by simp

theorem Cabinet.mem_removeEntry {c : Cabinet} {n : Nat} {e : Entry} :
    e ∈ (c.removeEntry n).book ↔ e ∈ c.book ∧ e.number ≠ n := by simp

/-- In a lawful book a number names one entry. -/
theorem BookLaw.eq_of_number {s : State} (h : BookLaw s) {e f : Entry} (he : e ∈ s.cab.book) (hf : f ∈ s.cab.book)
    (hn : e.number = f.number) : e = f := by
  have hp : s.cab.book.Pairwise fun a b => a.number < b.number := by simpa [List.pairwise_map] using h.1
  obtain ⟨i, hi, rfl⟩ := List.getElem_of_mem he
  obtain ⟨j, hj, rfl⟩ := List.getElem_of_mem hf
  rcases Nat.lt_trichotomy i j with hij | rfl | hij
  · have := List.pairwise_iff_getElem.1 hp i j hi hj hij; omega
  · rfl
  · have := List.pairwise_iff_getElem.1 hp j i hj hi hij; omega

/-- In a lawful book every entry is found under its number. -/
theorem BookLaw.entry?_eq {s : State} (h : BookLaw s) {e : Entry} (he : e ∈ s.cab.book) : s.cab.entry? e.number = some e := by
  cases hf : s.cab.entry? e.number with
  | none =>
    unfold Cabinet.entry? at hf
    exact absurd (List.find?_eq_none.1 hf e he) (by simp)
  | some x =>
    obtain ⟨hx, hn⟩ := Cabinet.entry?_some hf
    rw [h.eq_of_number hx he hn]

/-! ## Commands of the main domain, and requests -/

theorem State.onMain_main {s : State} (h : s.supply = .main) (f : State → State) : s.onMain f = f s := by
  unfold State.onMain; rw [h]

theorem State.onMain_of_ne {s : State} (h : s.supply ≠ .main) (f : State → State) : s.onMain f = s := by
  unfold State.onMain; split <;> simp_all

/-- A request command in a free port is processed at once (R185, log 3). -/
theorem State.request_of_free {s : State} (h : s.portFree) (r : Request) (handler : Handler) :
    (s.onMain fun s => s.request r handler) = s.process r handler := by
  rw [State.onMain_main h.1]; unfold State.request; rw [h.2]

/-- A request command behind a current request is held or answered BUSY (R185, log 3). -/
theorem State.request_of_busy {s : State} {cur : Current} (hs : s.supply = .main) (h : s.port.current = some cur)
    (r : Request) (handler : Handler) :
    (s.onMain fun s => s.request r handler) = { s with port := s.port.holdRequest r } := by
  rw [State.onMain_main hs]; unfold State.request; rw [h]

/-- A complete request in a free port is processed at once, by whatever it was completed (R185). -/
theorem State.takeRequest_of_free {s : State} (h : s.port.current = none) (r : Request) :
    s.takeRequest r = s.process r (handlerOf r.ty) := by
  unfold State.takeRequest State.request; rw [h]

/-- A complete request behind another is held or answered BUSY (R185). -/
theorem State.takeRequest_of_busy {s : State} {cur : Current} (h : s.port.current = some cur) (r : Request) :
    s.takeRequest r = { s with port := s.port.holdRequest r } := by
  unfold State.takeRequest State.request; rw [h]

/-- A byte within the gap continues the frame (R183). -/
theorem Port.beforeByte_of_le {p : Port} {now : Nat} (h : now ≤ p.lastByteAt + 10) : p.beforeByte now = p :=
  if_neg (Nat.not_lt.2 h)

/-- A byte after the gap finds the frame abandoned (R183). -/
theorem Port.beforeByte_of_lt {p : Port} {now : Nat} (h : p.lastByteAt + 10 < now) : p.beforeByte now = p.breakFrame := if_pos h

/-- In HUNT there is no frame to abandon (R183). -/
theorem Port.beforeByte_of_hunt {p : Port} (h : p.receiver = .hunt) (now : Nat) : p.beforeByte now = p := by
  unfold Port.beforeByte Port.breakFrame; rw [h]; split <;> rfl

/-- What a byte does: after a gap it finds the frame abandoned; the receiver takes it, and a request that it completes is taken in the
same step (R182, R183, R185). -/
theorem State.receiveByte_eq (s : State) (b : Byte) (ms : Nat) :
    s.receiveByte b ms =
      let heard := { s.port.beforeByte (max s.ms ms) with lastByteAt := max s.ms ms }.receive b
      match heard.2 with
      | none => { s with ms := max s.ms ms, port := heard.1 }
      | some r => State.takeRequest { s with ms := max s.ms ms, port := heard.1 } r := rfl

/-- What a gap's expiry does: a gap that no byte has come before breaks the frame in progress (R183, R190). -/
theorem State.gapExpired_eq (s : State) (ms : Nat) :
    s.gapExpired ms =
      { s with
        ms := max s.ms ms
        port := if s.port.lastByteAt + 10 ≤ max s.ms ms then s.port.breakFrame else s.port } := by
  unfold State.gapExpired
  show (if s.port.lastByteAt + 10 ≤ max s.ms ms then _ else _) = _
  split <;> rfl

/-- What the bytes of an exchange can do (R204): nothing yet, a miss, or what a HELLO, a REPORT or a BYE does. -/
theorem Cabinet.takeReply_cases (env : Env) (c : Cabinet) (o : OutletNo) (now : Nat) (bytes : List Byte) :
    (heardFrame bytes = .incomplete ∧ c.takeReply env o now bytes = c)
    ∨ (∃ payload, heardFrame bytes = .frame 0x20 payload ∧ c.takeReply env o now bytes = c.takeHello env o now payload)
    ∨ (∃ payload, heardFrame bytes = .frame 0x21 payload ∧ c.takeReply env o now bytes = c.takeReport env o now payload)
    ∨ (heardFrame bytes = .frame 0x22 [] ∧ c.takeReply env o now bytes = c.takeBye env o now)
    ∨ ((heardFrame bytes = .bad ∨ ∃ kind payload, heardFrame bytes = .frame kind payload
          ∧ kind ≠ 0x20 ∧ kind ≠ 0x21 ∧ ¬(kind = 0x22 ∧ payload = []))
      ∧ c.takeReply env o now bytes = c.missExchange env o now) := by
  unfold Cabinet.takeReply
  cases h : heardFrame bytes with
  | incomplete => exact .inl ⟨rfl, rfl⟩
  | bad => exact .inr (.inr (.inr (.inr ⟨.inl rfl, rfl⟩)))
  | frame kind payload =>
    by_cases h1 : kind = 0x20
    · subst h1; exact .inr (.inl ⟨payload, rfl, rfl⟩)
    by_cases h2 : kind = 0x21
    · subst h2; exact .inr (.inr (.inl ⟨payload, rfl, rfl⟩))
    by_cases h3 : kind = 0x22 ∧ payload = []
    · obtain ⟨rfl, rfl⟩ := h3; exact .inr (.inr (.inr (.inl ⟨rfl, rfl⟩)))
    · refine .inr (.inr (.inr (.inr ⟨.inr ⟨kind, payload, rfl, h1, h2, h3⟩, ?_⟩)))
      show (if kind = 0x20 then _ else if kind = 0x21 then _ else if kind = 0x22 ∧ payload = [] then _ else _) = _
      rw [if_neg h1, if_neg h2, if_neg h3]

/-- A processing that leaves the port alone answers with what its handler gives. -/
theorem State.process_eq_answered {s t : State} {r : Request} {handler : Handler} {reply : List Byte}
    (h : handler r.payload s = (t, reply)) : s.process r handler = t.answered r.ty r.payload reply := by
  unfold State.process State.answered; rw [h]

/-- A payload of the right length reaches the block. -/
theorem withLength_of_eq {n : Nat} {handler : Handler} {p : List Byte} (h : p.length = n) (s : State) :
    withLength n handler p s = handler p s := by
  unfold withLength; rw [if_pos h]

/-- A payload of another length is refused before it reaches the block (R187). -/
theorem withLength_of_ne {n : Nat} {handler : Handler} {p : List Byte} (h : p.length ≠ n) (s : State) :
    withLength n handler p s = (s, [0x02]) := by
  unfold withLength; rw [if_neg h]; rfl

/-! ## Notices -/

/-- A class's set holds that class alone (R201). -/
theorem NoticeClass.getLsbD_bit (c : NoticeClass) (k : Nat) (h : k < 13) : c.bit.getLsbD k = decide (k = c.index) := by
  cases c <;> (revert k; decide)

/-- Two notice sets share a class exactly when their intersection is not empty. -/
theorem NoticeSet.and_ne_zero_iff (a b : NoticeSet) :
    (a &&& b != 0) = true ↔ ∃ k, k < 13 ∧ a.getLsbD k = true ∧ b.getLsbD k = true := by
  rw [bne_iff_ne]
  constructor
  · intro h
    refine Classical.byContradiction fun hno => h (BitVec.eq_of_getLsbD_eq fun k hk => ?_)
    have := not_exists.1 hno k
    cases ha : a.getLsbD k <;> simp_all
  · rintro ⟨k, -, ha, hb⟩ h0
    have := congrArg (fun v : NoticeSet => v.getLsbD k) h0
    simp [ha, hb] at this

/-- The attention line after it has followed the marks (R174). -/
theorem Notices.follow_attention_iff (n : Notices) :
    n.follow.attention = true ↔ ∃ k, k < 13 ∧ n.pending.getLsbD k = true ∧ n.enabled.getLsbD k = true :=
  NoticeSet.and_ne_zero_iff n.pending n.enabled

end Sys2Proof.Machine
end

