-- ==== Sys2Proof/Laws/Frames.lean ====
section
/-!
SUPPORT. What the Book's operations leave alone: of every outlet the plug filter, the residual lease and the session but for its queue, and
of the cabinet the quiesce state. Stated once for each shared operation of the Book, up to whole clock changes and calendar seconds.
-/

namespace Sys2Proof.Machine

/-- Between `c` and `t` nothing of the outlets has changed but grants and queues, and the quiesce state stands. -/
structure LinksStand (c t : Cabinet) : Prop where
  quiesce : t.quiesce = c.quiesce
  session : ∀ o, (t.session o).butQueue = (c.session o).butQueue
  plug : ∀ o, (t.outlet o).plug = (c.outlet o).plug
  residual : ∀ o, (t.outlet o).residual = (c.outlet o).residual
  residualDue : ∀ o, (t.outlet o).residualDue = (c.outlet o).residualDue

theorem LinksStand.refl (c : Cabinet) : LinksStand c c := ⟨rfl, fun _ => rfl, fun _ => rfl, fun _ => rfl, fun _ => rfl⟩

theorem LinksStand.trans {a b c : Cabinet} (h : LinksStand a b) (k : LinksStand b c) : LinksStand a c :=
  ⟨k.quiesce.trans h.quiesce, fun o => (k.session o).trans (h.session o), fun o => (k.plug o).trans (h.plug o),
    fun o => (k.residual o).trans (h.residual o), fun o => (k.residualDue o).trans (h.residualDue o)⟩

/-- A change that leaves the outlets and the quiesce state leaves the links. -/
theorem LinksStand.of_outlets {c t : Cabinet} (h : t.outlets = c.outlets) (k : t.quiesce = c.quiesce) : LinksStand c t := by
  have ho : ∀ o, t.outlet o = c.outlet o := fun o => by unfold Cabinet.outlet; rw [h]
  exact ⟨k, fun o => by unfold Cabinet.session; rw [ho], fun o => by rw [ho], fun o => by rw [ho], fun o => by rw [ho]⟩

/-- A change of one outlet that leaves its links leaves all of them. -/
theorem LinksStand.of_updOutlet (c : Cabinet) (o : OutletNo) (f : Outlet → Outlet)
    (h : (f (c.outlet o)).session.butQueue = (c.outlet o).session.butQueue) (hp : (f (c.outlet o)).plug = (c.outlet o).plug)
    (hr : (f (c.outlet o)).residual = (c.outlet o).residual) (hd : (f (c.outlet o)).residualDue = (c.outlet o).residualDue) :
    LinksStand c (c.updOutlet o f) := by
  have ho : ∀ p, (c.updOutlet o f).outlet p = if p = o then f (c.outlet p) else c.outlet p := fun p => c.outlet_updOutlet o p f
  have hs : ∀ p, ((c.updOutlet o f).outlet p).session.butQueue = (c.outlet p).session.butQueue := by
    intro p; rw [ho]; split <;> simp_all
  exact ⟨rfl, hs, fun p => by rw [ho]; split <;> simp_all, fun p => by rw [ho]; split <;> simp_all,
    fun p => by rw [ho]; split <;> simp_all⟩

/-- A fold of operations that each leave the links leaves them. -/
theorem LinksStand.foldl {α : Type} (l : List α) (op : Cabinet → α → Cabinet) (h : ∀ c a, LinksStand c (op c a)) :
    ∀ c, LinksStand c (l.foldl op c) := by
  induction l with
  | nil => exact fun c => .refl c
  | cons a rest ih => exact fun c => (h c a).trans (ih (op c a))

/-! ## Queues -/

theorem Session.placeGrant_butQueue (x : Session) (q : Seq) (w l : Nat) : (x.placeGrant q w l).butQueue = x.butQueue := rfl

theorem Session.placeStop_butQueue (x : Session) (q : Seq) (l : Nat) : (x.placeStop q l).butQueue = x.butQueue := rfl

theorem Session.placeWelcome_butQueue (x : Session) (b : QueueBody) : (x.placeWelcome b).butQueue = x.butQueue := rfl

theorem Cabinet.zeroGrant_links (env : Env) (c : Cabinet) (o : OutletNo) : LinksStand c (c.zeroGrant env o) :=
  .of_updOutlet c o _ rfl rfl rfl rfl

theorem Cabinet.releaseDeferred_links (env : Env) (c : Cabinet) : LinksStand c (c.releaseDeferred env) := by
  have h : ∀ out : Outlet, (out.releaseDeferred env.lease).session.butQueue = out.session.butQueue
      ∧ (out.releaseDeferred env.lease).plug = out.plug ∧ (out.releaseDeferred env.lease).residual = out.residual
      ∧ (out.releaseDeferred env.lease).residualDue = out.residualDue := by
    intro out; unfold Outlet.releaseDeferred; split <;> exact ⟨rfl, rfl, rfl, rfl⟩
  have ho : ∀ o, (c.releaseDeferred env).outlet o = (c.outlet o).releaseDeferred env.lease := fun o => Eight.get_map _ _ o
  exact ⟨rfl, fun o => by unfold Cabinet.session; rw [ho]; exact (h _).1, fun o => by rw [ho]; exact (h _).2.1,
    fun o => by rw [ho]; exact (h _).2.2.1, fun o => by rw [ho]; exact (h _).2.2.2⟩

/-! ## Plans and leads -/

/-- Planning an entry changes the book and perhaps the notices. -/
theorem Cabinet.planEntry_links (env : Env) (c : Cabinet) (o : OutletNo) (e : Entry) : LinksStand c (c.planEntry env o e) := by
  unfold Cabinet.planEntry
  split
  · exact .refl c
  · dsimp only; split <;> exact .of_outlets rfl rfl

theorem Cabinet.replan_links (env : Env) (c : Cabinet) (o : OutletNo) : LinksStand c (c.replan env o) := by
  unfold Cabinet.replan
  split
  · exact c.planEntry_links env o _
  · exact .refl c

theorem Cabinet.replanAll_links (env : Env) (c : Cabinet) : LinksStand c (c.replanAll env) :=
  .foldl _ _ (fun c o => c.replan_links env o) c

theorem Cabinet.displaceLead_links (env : Env) (c : Cabinet) (o : OutletNo) : LinksStand c (c.displaceLead env o) := by
  unfold Cabinet.displaceLead
  split
  · exact .refl c
  · next lead _ =>
    have h : LinksStand c (c.updEntry lead.number Entry.toBooked) := .of_outlets rfl rfl
    dsimp only
    split
    · exact h.trans (Cabinet.zeroGrant_links env _ o)
    · exact h

theorem Cabinet.makeLead_links (env : Env) (c : Cabinet) (o : OutletNo) (e : Entry) : LinksStand c (c.makeLead env o e) := by
  unfold Cabinet.makeLead
  split
  · exact .refl c
  · exact (c.planEntry_links env o e).trans (.of_outlets rfl rfl)

/-- The choice of a lead displaces, plans and promotes entries of one outlet. -/
theorem Cabinet.chooseLead_links (env : Env) (c : Cabinet) (o : OutletNo) : LinksStand c (c.chooseLead env o) := by
  unfold Cabinet.chooseLead
  split
  · split
    · exact .refl c
    · split
      · exact .refl c
      · exact (c.displaceLead_links env o).trans (Cabinet.makeLead_links env _ o _)
  · exact .refl c

theorem Cabinet.chooseLeads_links (env : Env) (c : Cabinet) : LinksStand c (c.chooseLeads env) :=
  .foldl _ _ (fun c o => c.chooseLead_links env o) c

/-! ## Ends of occurrences -/

theorem Cabinet.appendOutcome_links (c : Cabinet) (e : Entry) (cause : EndCause) (r : Readiness) (t : Nat) :
    LinksStand c (c.appendOutcome e cause r t) := by
  unfold Cabinet.appendOutcome
  dsimp only
  split <;> exact .of_outlets rfl rfl

theorem Cabinet.rearm_links (env : Env) (c : Cabinet) (e : Entry) (p : Pattern) : LinksStand c (c.rearm env e p) := by
  unfold Cabinet.rearm; split <;> exact .of_outlets rfl rfl

theorem Cabinet.endOccurrence_links (env : Env) (c : Cabinet) (e : Entry) (cause : EndCause) (r : Readiness) (t : Nat)
    (zeroing : Bool) : LinksStand c (c.endOccurrence env e cause r t zeroing) := by
  have h1 : LinksStand c ((c.appendOutcome e cause r t).updEntry e.number Entry.toBooked) :=
    (c.appendOutcome_links e cause r t).trans (.of_outlets rfl rfl)
  have h2 : ∀ d : Cabinet, LinksStand c d → LinksStand c (match e.booking with
      | .oneShot _ => d.removeEntry e.number
      | .recurring p => d.rearm env e p) := by
    intro d hd
    split
    · exact hd.trans (.of_outlets rfl rfl)
    · exact hd.trans (Cabinet.rearm_links env d e _)
  unfold Cabinet.endOccurrence
  refine h2 _ ?_
  split
  · split
    · exact h1.trans (Cabinet.zeroGrant_links env _ _)
    · exact h1
  · exact h1

theorem Cabinet.endEntry_links (env : Env) (c : Cabinet) (n : Nat) (cause : EndCause) (r : Readiness) (t : Nat) (zeroing : Bool) :
    LinksStand c (c.endEntry env n cause r t zeroing) := by
  unfold Cabinet.endEntry
  split
  · exact .refl c
  · next e _ =>
    have h := c.endOccurrence_links env e cause r t zeroing
    dsimp only
    split
    · exact h.trans (Cabinet.chooseLead_links env _ _)
    · exact h

/-! ## Departures, grace expiries, and changes of the calendar -/

theorem Cabinet.recordSnapshot_links (c : Cabinet) (o : OutletNo) (n : Nat) : LinksStand c (c.recordSnapshot o n) :=
  .of_outlets rfl rfl

theorem Cabinet.takeDeparture_links (env : Env) (mode : Passage) (c : Cabinet) (n t : Nat) :
    LinksStand c (c.takeDeparture env mode n t) := by
  unfold Cabinet.takeDeparture
  repeat' split
  all_goals first
    | exact .refl c
    | exact c.endEntry_links env _ _ _ _ _
    | exact c.recordSnapshot_links _ _
    | exact (c.endEntry_links env _ _ _ _ _).trans (Cabinet.recordSnapshot_links _ _ _)
    | exact (c.chooseLead_links env _).trans (Cabinet.recordSnapshot_links _ _ _)

theorem Cabinet.takeGraceExpiry_links (env : Env) (c : Cabinet) (n d : Nat) : LinksStand c (c.takeGraceExpiry env n d) := by
  unfold Cabinet.takeGraceExpiry
  repeat' split
  all_goals first
    | exact .refl c
    | exact c.endEntry_links env _ _ _ _ _

/-- A change of the book alone. -/
theorem LinksStand.of_book (c : Cabinet) (b : List Entry) : LinksStand c { c with book := b } := .of_outlets rfl rfl

theorem Cabinet.passEvents_links (env : Env) (mode : Passage) (c : Cabinet) (t0 t1 : Nat) :
    LinksStand c (c.passEvents env mode t0 t1) := by
  refine .foldl _ _ (fun c ev => ?_) c
  unfold Cabinet.takeDue
  split
  · exact c.takeGraceExpiry_links env _ _
  · exact c.takeDeparture_links env mode _ _

/-- A calendar second event at the Book. -/
theorem Cabinet.calendarSecond_links (env : Env) (c : Cabinet) : LinksStand c (c.calendarSecond env) := by
  unfold Cabinet.calendarSecond
  exact (LinksStand.of_book c _).trans (Cabinet.passEvents_links env .atSecond _ _ _)

theorem Cabinet.recompute_links (env : Env) (c : Cabinet) (n : Nat) : LinksStand c (c.recompute env n) := by
  unfold Cabinet.recompute
  repeat' split
  all_goals first
    | exact .refl c
    | exact .of_outlets rfl rfl

/-- A clock jump at the Book. -/
theorem Cabinet.clockJump_links (env : Env) (c : Cabinet) (t0 : Nat) : LinksStand c (c.clockJump env t0) := by
  unfold Cabinet.clockJump
  refine LinksStand.trans ?_ ((Cabinet.chooseLeads_links env _).trans (Cabinet.replanAll_links env _))
  split
  · exact c.passEvents_links env .jump _ _
  · exact (c.passEvents_links env .atSecond _ _).trans (.foldl _ _ (fun c n => c.recompute_links env n) _)

theorem Cabinet.leaveUnsetOneShot_links (env : Env) (c : Cabinet) (n : Nat) : LinksStand c (c.leaveUnsetOneShot env n) := by
  unfold Cabinet.leaveUnsetOneShot
  repeat' split
  all_goals first
    | exact .refl c
    | exact .of_outlets rfl rfl
    | exact c.endOccurrence_links env _ _ _ _ _

theorem LinksStand.of_freeCount (c : Cabinet) (n : Nat) : LinksStand c { c with freeCount := n } := .of_outlets rfl rfl

theorem Cabinet.updEntry_links (c : Cabinet) (n : Nat) (f : Entry → Entry) : LinksStand c (c.updEntry n f) := .of_outlets rfl rfl

theorem Cabinet.removeEntry_links (c : Cabinet) (n : Nat) : LinksStand c (c.removeEntry n) := .of_outlets rfl rfl

theorem Cabinet.leaveUnsetRecurring_links (env : Env) (c : Cabinet) (n : Nat) : LinksStand c (c.leaveUnsetRecurring env n) := by
  unfold Cabinet.leaveUnsetRecurring
  split
  · exact .refl c
  · next e _ =>
    split
    · exact .refl c
    · split
      · exact (LinksStand.of_freeCount c _).trans (Cabinet.endOccurrence_links env _ _ _ _ _ _)
      · have h := c.updEntry_links n fun x => { x with exec := none }
        dsimp only
        split
        · exact h.trans (Cabinet.updEntry_links _ _ _)
        · exact h.trans ((Cabinet.appendOutcome_links _ _ _ _ _).trans (Cabinet.removeEntry_links _ _))

/-- The Book as the calendar leaves UNSET. -/
theorem Cabinet.leaveUnset_links (env : Env) (c : Cabinet) : LinksStand c (c.leaveUnset env) := by
  unfold Cabinet.leaveUnset
  refine LinksStand.trans ?_ ((Cabinet.chooseLeads_links env _).trans (Cabinet.replanAll_links env _))
  exact (LinksStand.foldl _ _ (fun c n => c.leaveUnsetOneShot_links env n) c).trans
    (LinksStand.foldl _ _ (fun c n => c.leaveUnsetRecurring_links env n) _)

/-- The Book as the calendar becomes UNSET. -/
theorem Cabinet.becomeUnset_links (env : Env) (c : Cabinet) : LinksStand c (c.becomeUnset env) := by
  unfold Cabinet.becomeUnset
  refine LinksStand.trans (LinksStand.foldl outletNumbers _ (fun c o => ?_) c) (LinksStand.of_outlets rfl rfl)
  unfold Cabinet.zeroIfActive
  repeat' split
  all_goals first
    | exact .refl c
    | exact c.zeroGrant_links env _

end Sys2Proof.Machine
end

