-- ==== Sys2Proof/Laws/Queue.lean ====
section
/-!
SUPPORT. The outbound queue: what a placement leaves in it, what the channel takes from it, and that placements act on nothing else.
-/

namespace Sys2Proof.Machine

/-- Where some record satisfies `p`, the replacement is in the list. -/
theorem mem_replaceFirst (p : QueueRecord → Bool) (new : QueueRecord) (l : List QueueRecord) (h : l.any p = true) :
    new ∈ replaceFirst p new l := by
  induction l with
  | nil => simp at h
  | cons r rest ih =>
    unfold replaceFirst
    split
    · simp
    · next hr => simp [hr] at h; exact List.mem_cons_of_mem _ (ih (by simpa using h))

theorem length_replaceFirst (p : QueueRecord → Bool) (new : QueueRecord) (l : List QueueRecord) :
    (replaceFirst p new l).length = l.length := by
  induction l with
  | nil => rfl
  | cons r rest ih => unfold replaceFirst; split <;> simp [ih]

/-- The GRANTs behind a STOP become stale; a record that is no GRANT stays. -/
theorem mem_staleBehindStop {l : List QueueRecord} {r : QueueRecord} (h : r ∈ l) (hg : r.isGrant = false) :
    r ∈ staleBehindStop l := by
  induction l with
  | nil => simp at h
  | cons x rest ih =>
    unfold staleBehindStop
    split
    · rcases List.mem_cons.1 h with rfl | h
      · simp
      · exact List.mem_cons_of_mem _ (List.mem_map.2 ⟨r, h, by simp [hg]⟩)
    · rcases List.mem_cons.1 h with rfl | h
      · simp
      · exact List.mem_cons_of_mem _ (ih h)

theorem length_staleBehindStop (l : List QueueRecord) : (staleBehindStop l).length = l.length := by
  induction l with
  | nil => rfl
  | cons r rest ih => unfold staleBehindStop; split <;> simp [ih]

/-- A GRANT placed is in the queue, live (R133). -/
theorem Session.mem_placeGrant (x : Session) (q : Seq) (w l : Nat) : QueueRecord.fresh (.grant q w l) ∈ (x.placeGrant q w l).queue := by
  unfold Session.placeGrant
  refine List.mem_append_right _ ?_
  split
  · next h => exact mem_replaceFirst _ _ _ h
  · simp

/-- A STOP placed is in the queue, live (R134). -/
theorem Session.mem_placeStop (x : Session) (q : Seq) (l : Nat) : QueueRecord.fresh (.stop q l) ∈ (x.placeStop q l).queue := by
  unfold Session.placeStop
  refine List.mem_append_right _ (mem_staleBehindStop ?_ rfl)
  split
  · next h => exact mem_replaceFirst _ _ _ h
  · simp

/-- A WELCOME placed is in the queue, live (R122). -/
theorem Session.mem_placeWelcome (x : Session) (b : QueueBody) : QueueRecord.fresh b ∈ (x.placeWelcome b).queue := by
  unfold Session.placeWelcome
  refine List.mem_append_right _ ?_
  split
  · next h => exact mem_replaceFirst _ _ _ h
  · simp

/-- The channel passes over the stale records at the head, and over no live one (R115, R132). -/
theorem dropStale_append {dead rest : List QueueRecord} {r : QueueRecord} (hd : ∀ q ∈ dead, q.stale = true) (hr : r.stale = false) :
    dropStale (dead ++ r :: rest) = r :: rest := by
  induction dead with
  | nil => simp [dropStale, hr]
  | cons q dead ih => simp [dropStale, hd q (by simp), ih fun x hx => hd x (by simp [hx])]

theorem dropStale_of_all_stale {l : List QueueRecord} (h : ∀ q ∈ l, q.stale = true) : dropStale l = [] := by
  induction l with
  | nil => rfl
  | cons q l ih => simp [dropStale, h q (by simp), ih fun x hx => h x (by simp [hx])]

/-- A sent list never grows past four records (R125). -/
theorem length_addSent {l : List SentRecord} (h : l.length ≤ 4) (r : SentRecord) : (addSent l r).length ≤ 4 := by
  unfold addSent Config.sentCapacity; dsimp only; split <;> simp <;> simp at * <;> omega

end Sys2Proof.Machine
end

