-- ==== Sys2Proof/Tests/Slice0.lean ====
section
/-!
SUPPORT. Tests: what WellFormed refuses, the manual's worked figures, one step at a time, and for each statement with hypotheses a
state and operands that meet them.
-/

namespace Sys2Proof.Tests

-- One theorem at a time: the kernel's evaluations then share one stack.
set_option Elab.async false

open Sys2Proof.Machine

/-! ## Small states -/

/-- Bytes from numbers. -/
def bytes (l : List Nat) : List Byte := l.map (BitVec.ofNat 8)

/-- The state after a command; no command stops the part. -/
def got (c : Instr) (s : State) : State :=
  match exec c s with
  | .next t => t
  | .fault f => nomatch f
  | .refused _ => s

/-- The characters of TX-0417. -/
def taxiTag : Tag := bytes [0x54, 0x58, 0x2D, 0x30, 0x34, 0x31, 0x37]

/-- TX-0417 as the links carry it. -/
def taxiTagBytes : List Nat := [7, 0x54, 0x58, 0x2D, 0x30, 0x34, 0x31, 0x37, 0, 0, 0, 0, 0]

/-- Profile 5 of the manual's worked cases (03, section 3.7). -/
def taxi : Profile :=
  { heatCapacity := 150, lossCoefficient := 55, maxDraw := 7000, minDraw := 1200, p0 := ⟨-300, 105⟩, p1 := ⟨-200, 130⟩
    p2 := ⟨-50, 180⟩, p3 := ⟨100, 240⟩, defrost := 300 }

/-- The LOAD_PROFILE of profile 5. -/
def taxiLoad : List Byte :=
  bytes [5, 0, 150, 0, 55, 0x1B, 0x58, 0x04, 0xB0, 0xFE, 0xD4, 0, 105, 0xFF, 0x38, 0, 130, 0xFF, 0xCE, 0, 180, 0, 100, 0, 240,
    0x01, 0x2C]

/-- Tuesday 2031-01-14 21:00:00 (07, section 7.1). -/
def evening : Nat := 979506000

/-- Wednesday 2031-01-15 05:30:00. -/
def halfPastFive : Nat := 979536600

/-- A TRUE calendar on the evening of the worked sequences, profile 5 loaded, the air at -240. -/
def cabinet : State :=
  { State.reset with
    clock := { State.reset.clock with depotTime := evening, calendar := .trueTime }
    profiles := State.reset.profiles.set 5 (some taxi)
    planner := { State.reset.planner with outdoorState := .fresh, outdoor := some (-240) } }

/-- The plan's inputs of 03, section 3.7: at 22:40:00, and with a cabin of -185 at 01:12:30. -/
def planInputs (cabin : Int) (now : Nat) : PlanInputs :=
  { cabin := cabin, outdoor := -240, inputConditions := 0, target := 210, profile := taxi, defrostSpent := 0, baseMargin := 120
    drifting := false, u := 0, departure := halfPastFive, now := now }

/-- Entry 0 of the worked sequence (01, section 1.10), in a state and on an outlet, with the execution record given. -/
def entryZero (state : EntryState) (bound : Option OutletNo) (exec : Option Execution) : Entry :=
  { number := 0, tag := taxiTag, booking := .oneShot halfPastFive, target := 210, grace := 10, next := some halfPastFive
    state := state, bound := bound, occurrenceOutlet := bound
    plan := (match state with
      | .booked => none
      | _ => some (planInputs (-185) evening).plan)
    exec := exec, unreachable := false }

/-- An execution record with an energy and perhaps a snapshot. -/
def execution (energy : Nat) (snapshot : Option Snapshot) : Execution :=
  { warmingBegan := some (halfPastFive - 1270), targetReached := none, energy := energy, defrostSpent := 0, snapshot := snapshot
    conditions := 0 }

/-- An IDENTIFIED session of TX-0417 that has acknowledged record 57 of `watts` watts. -/
def taxiSession (watts : Nat) : Session :=
  { Session.cleared with
    state := .identified, tag := some taxiTag, profile := some 5, acked := some ⟨57, watts⟩, lease := 20
    sent := [⟨57, watts, 25⟩, ⟨58, 2063, 25⟩], lastEnd := some 1000, lastPoll := some 900, energyRef := some 1000 }

/-- The taxi on outlet 3 with the session and the grant given, its filtered plug level asserted. -/
def parked (x : Session) (watts : Nat) : Outlet :=
  { Outlet.afterReset with
    plug := { asserted := true, run := 0 }, session := x
    grants := { released := watts, lastSeq := 57, nextSeq := 58, deferred := none, mark := none } }

/-- The cabinet with outlet 3 and the book given, and an active allowance of 12,000 W. -/
def with3 (out : Outlet) (book : List Entry) : State :=
  { cabinet with
    arbiter := { cabinet.arbiter with pendingAllowance := 12000, activeAllowance := 12000 }
    cab := { cabinet.cab with outlets := cabinet.cab.outlets.set 3 out, book := book } }

/-- TX-0417 warming on outlet 3 at 7,000 W. -/
def warming : State :=
  with3 (parked (taxiSession 7000) 7000) [entryZero .warming (some 3) (some (execution 1000 none))]

/-- A state with an exchange in flight on outlet 3. -/
def inFlight (s : State) (fromQueue : Bool) : State :=
  { s with cab := s.cab.updSession 3 fun x =>
    { x with
      queue := if fromQueue then [.fresh (.grant 58 2063 25)] else x.queue
      channel := .inFlight fromQueue [] } }

/-- A state whose port is REPLYING with a READ_STATUS, its reply in the transmitter. -/
def replying (s : State) (ty : Byte) : State :=
  { s with port := { s.port with
      current := some { request := { ty := ty, payload := [] }, phase := .replying }
      sending := some { isReply := true, ty := ty + 0x80, payload := [0x00] } } }

/-! ## WellFormed refuses what the links cannot carry -/

theorem test_wellFormed_unknownType_in_catalogue : (Instr.unknownType 0x01 []).wellFormed = false := by decide

theorem test_wellFormed_long_payload : (Instr.book (List.replicate 250 0)).wellFormed = false := by decide +kernel

theorem test_wellFormed_long_hello : (Instr.hello 0 0 (outletFrame 0x20 (List.replicate 17 0))).wellFormed = false := by decide +kernel

theorem test_wellFormed_hello_of_another_kind : (Instr.hello 0 0 (outletFrame 0x21 [])).wellFormed = false := by decide +kernel

theorem test_wellFormed_short_report : (Instr.report 0 0 (outletFrame 0x21 (List.replicate 6 0))).wellFormed = false := by decide +kernel

theorem test_wellFormed_long_bye : (Instr.bye 0 0 (outletFrame 0x22 [0])).wellFormed = false := by decide +kernel

theorem test_wellFormed_other_kind_cut_short : (Instr.otherKindReply 0 0 ((outletFrame 0x33 []).take 4)).wellFormed = false := by
  decide +kernel

theorem test_wellFormed_bad_crc_of_a_good_frame : (Instr.badCrcReply 0 0 (outletFrame 0x22 [])).wellFormed = false := by decide +kernel

theorem test_wellFormed_recovered : (Instr.windowEnd 0 (List.replicate 3 .calendarFirst)).wellFormed = false := by decide

theorem test_wellFormed_accepts :
    (Instr.readStatus []).wellFormed = true ∧ (Instr.unknownType 0x40 []).wellFormed = true
      ∧ (Instr.report 3 0 (outletFrame 0x21 (List.replicate 7 0))).wellFormed = true
      ∧ (Instr.badCrcReply 3 0 (bytes [0xA5, 0x22, 0, 0, 0])).wellFormed = true := by decide +kernel

/-- No row of the table gives bits (spec/opcode_table.json), so no word spells a command. -/
theorem test_decodeTableWord : decodeTableWord 8 0x01 = none := rfl

/-! ## Worked figures of the calendar and the search -/

/-- 07, section 7.1: Tuesday 2031-01-14 21:00:00 is 979,506,000. -/
theorem test_depotTime :
    depotTimeOf { year := 2031, month := 1, day := 14, hour := 21, minute := 0, second := 0 } = 979506000
      ∧ weekdayOf 979506000 = 1
      ∧ calendarTimeOf 979506000 = { year := 2031, month := 1, day := 14, hour := 21, minute := 0, second := 0 } := by decide

/-- R140: the span ends at 3,155,759,999. -/
theorem test_span :
    depotTimeOf { year := 2099, month := 12, day := 31, hour := 23, minute := 59, second := 59 } = 3155759999
      ∧ depotTimeOf { year := 2000, month := 1, day := 1, hour := 0, minute := 0, second := 0 } = 0 := by decide

/-- 01, section 1.10, request 1: 05:30 Monday to Friday after Tuesday 21:00 is Wednesday 05:30. -/
theorem test_search_weekday :
    ({ minute := 30, hour := 5, weekdays := 0x1F, day := none, month := none } : Pattern).nextOccurrence evening
      = some halfPastFive := by decide

/-- 01, section 1.10: 06:00 on Saturdays and Sundays after Wednesday 06:10 is Saturday 2031-01-18 06:00. -/
theorem test_search_weekend :
    ({ minute := 0, hour := 6, weekdays := 0x60, day := none, month := none } : Pattern).nextOccurrence (halfPastFive + 2400)
      = some (depotTimeOf { year := 2031, month := 1, day := 18, hour := 6, minute := 0, second := 0 }) := by decide

/-! ## Worked plans -/

/-- 03, section 3.7, at 22:40:00 with no report: start 05:07:17, W 943, lead 1,363, hold 2,063, slack 23,237. -/
theorem test_plan_first :
    (planInputs (-240) (evening + 6000)).plan =
      { start := halfPastFive - 1363, leadTime := 1363, warmSeconds := 943, defrostLeft := 300, holdPower := 2063
        slack := 23237, conditions := 0, fullDraw := 7000 } := by decide

/-- 03, section 3.7, at 01:12:30 with the cabin at -185: start 05:08:55, W 845, lead 1,265, slack 14,185. -/
theorem test_plan_later :
    (planInputs (-185) (evening + 15150)).plan =
      { start := halfPastFive - 1265, leadTime := 1265, warmSeconds := 845, defrostLeft := 300, holdPower := 2063
        slack := 14185, conditions := 0, fullDraw := 7000 } := by decide

/-- 03, section 3.8: a bad night, with OUTDOOR_STALE, FACTOR_CLAMPED and DRIFT_MARGIN. -/
theorem test_plan_bad_night :
    ({ planInputs (-390) (evening + 24000) with
        outdoor := -420, inputConditions := condOutdoorStale, drifting := true, u := 7230 } : PlanInputs).plan =
      { start := halfPastFive - 2192, leadTime := 2192, warmSeconds := 1627, defrostLeft := 300, holdPower := 3300
        slack := 4408, conditions := condOutdoorStale ||| condFactorClamped ||| condDriftMargin, fullDraw := 7000 } := by decide

/-- 03, section 3.9: a unit that cannot win. -/
theorem test_plan_unreachable :
    let i : PlanInputs :=
      { cabin := -500, outdoor := -500, inputConditions := 0, target := 280
        profile := { heatCapacity := 400, lossCoefficient := 400, maxDraw := 1000, minDraw := 500, p0 := ⟨-300, 50⟩
                     p1 := ⟨-200, 50⟩, p2 := ⟨-50, 50⟩, p3 := ⟨100, 50⟩, defrost := 0 }
        defrostSpent := 0, baseMargin := 120, drifting := false, u := 0, departure := halfPastFive, now := evening }
    i.lossPower = 15600 ∧ i.plan.warmSeconds = 14400 ∧ i.plan.leadTime = 14400 ∧ i.plan.holdPower = 1000
      ∧ i.plan.conditions = condFactorClamped ||| condUnreachable ||| condLeadCapped ||| condHoldLimited := by decide

/-- R50: on the falling segment from (-50, 180) to (100, 160) the factor at 20 is 170. -/
theorem test_factor_falling : interpolate ⟨-50, 180⟩ ⟨100, 160⟩ 20 = 170 := by decide

/-! ## Worked allocations (05, section 5.10) -/

theorem test_allocation_first :
    allocate
      (rankCandidates
        [⟨6, 2, 600, 6000, 1500⟩, ⟨4, 2, 120, 7000, 1200⟩, ⟨1, 1, 0, 2063, 1200⟩]) 12000
      = [(1, 2063), (4, 7000), (6, 2937)] := by decide

theorem test_allocation_passed_over :
    allocate
      (rankCandidates
        [⟨0, 2, 300, 6000, 1500⟩, ⟨2, 1, 0, 3300, 1200⟩, ⟨5, 2, -40, 5500, 1000⟩, ⟨7, 3, 0, 1100, 1000⟩]) 10000
      = [(2, 3300), (5, 5500), (0, 0), (7, 1100)] := by decide

/-- R99: with the last number 2, 65535 is after the mark 65534, and 3 is not. -/
theorem test_atOrAfter_wraps : Seq.atOrAfter 65535 65534 2 = true ∧ Seq.atOrAfter 3 65534 2 = false := by decide

/-! ## Frames (11) -/

/-- 11, the worked frame: GRANT of 2,063 W, sequence 58, lease 25. -/
theorem test_grant_frame :
    (QueueBody.frame (.grant 58 2063 25)).take 8 = bytes [0xA5, 0x12, 0x05, 0x00, 0x3A, 0x08, 0x0F, 0x19] := by decide

/-- R204: the POLL as the part sends it is heard whole behind noise, and its bytes but the last are not yet a frame; one wrong bit and a LEN
of 17 are bad. -/
theorem test_heardFrame :
    heardFrame (0x00 :: outletFrame 0x10 []) = .frame 0x10 [] ∧ heardFrame ((outletFrame 0x10 []).take 4) = .incomplete
      ∧ heardFrame (bytes [0xA5, 0x10, 0x00, 0x00, 0x00]) = .bad ∧ heardFrame (bytes [0xA5, 0x20, 17]) = .bad := by decide +kernel

/-- The CRC of "123456789" with polynomial 0x1021 and initial value 0xFFFF is 0x29B1, a published check value of that CRC. -/
theorem test_crc_check_value : crc16 (bytes [0x31, 0x32, 0x33, 0x34, 0x35, 0x36, 0x37, 0x38, 0x39]) = 0x29B1 := by decide +kernel

/-- 11, the worked record: serial 41 of the worked sequence of 04, section 4.9. -/
theorem test_outcome_record :
    let r : OutcomeRecord :=
      { serial := 41, number := 0, tag := taxiTag, outlet := some 3, scheduled := halfPastFive, readiness := .ready
        cabin := some (209, false), targetReached := some 979536073, energy := 2063, cause := .graceExpired, conditions := 0 }
    r.encode.length = 42 ∧ r.encode.take 3 = bytes [0x00, 0x29, 0x00]
      ∧ (r.encode.drop 16).take 1 = bytes [0x03] ∧ (r.encode.drop 24).take 4 = bytes [0x00, 0x00, 0xD1, 0x00]
      ∧ (r.encode.drop 36) = bytes [0x00, 0x00, 0x08, 0x0F, 0x00, 0x00] := by decide

/-! ## One step: requests -/

/-- 01, section 1.10, request 1: entry 0, next departure Wednesday 05:30:00. -/
theorem test_book_recurring :
    let t := got (.book (bytes (taxiTagBytes ++ [2, 0, 210, 10, 30, 5, 0x1F, 255, 255]))) cabinet
    t.cab.book.map (fun e => (e.number, e.next, e.state)) = [(0, some halfPastFive, .booked)]
      ∧ t.port.current.map Current.phase = some (.processed (bytes [0, 0, 1, 0x07, 0xEF, 1, 15, 5, 30, 0])) := by decide +kernel

/-- 01, section 1.10, request 3: the tag and departure of entry 0 again is DUPLICATE. -/
theorem test_book_duplicate :
    let t := got (.book (bytes (taxiTagBytes ++ [1, 0, 210, 10, 0x07, 0xEF, 1, 15, 5, 30])))
      (with3 .afterReset [entryZero .booked none none])
    t.cab.book.length = 1 ∧ t.port.current.map Current.phase = some (.processed [0x06]) := by decide +kernel

/-- 01, section 1.10, request 5: day 31 of April has no occurrence. -/
theorem test_book_no_occurrence :
    (got (.book (bytes (taxiTagBytes ++ [2, 0, 190, 10, 0, 6, 0, 31, 4]))) cabinet).port.current.map Current.phase
      = some (.processed [0x0A]) := by decide +kernel

/-- R14: cancelling a WARMING lead zeroes its grant by a GRANT of 0 with the next number. -/
theorem test_cancel_active :
    let t := got (.cancel [0]) warming
    t.cab.book = [] ∧ (t.cab.outlet 3).grants.released = 0
      ∧ (t.cab.session 3).queue = [.fresh (.grant 58 0 25)] := by decide +kernel

/-- R150: 2031-02-29 is refused; 2032-02-29 is taken. -/
theorem test_setClock :
    (got (.setClock (bytes [0x07, 0xEF, 2, 29, 0, 0, 0])) cabinet).clock.depotTime = evening
      ∧ (got (.setClock (bytes [0x07, 0xF0, 2, 29, 0, 0, 0])) cabinet).clock.depotTime
        = depotTimeOf { year := 2032, month := 2, day := 29, hour := 0, minute := 0, second := 0 } := by decide +kernel

/-- R91: an interval of 3 s is stored as 5, a margin of 1,000 s as 900; nothing becomes active. -/
theorem test_setSite_clamps :
    let t := got (.setSite (bytes [0, 3, 0x03, 0xE8])) cabinet
    t.arbiter.pendingInterval = 5 ∧ t.arbiter.activeInterval = 10 ∧ t.planner.baseMargin = 900 := by decide +kernel

/-- R90: 250,001 W is stored as 250,000. -/
theorem test_setAllowance_clamps :
    (got (.setAllowance (bytes [0x00, 0x03, 0xD0, 0x91])) cabinet).arbiter.pendingAllowance = 250000 := by decide +kernel

/-- 03, section 3.9: SET_OUTDOOR -650 is stored as -500 with the clamped mark. -/
theorem test_setOutdoor_clamps :
    let t := got (.setOutdoor (bytes [0xFD, 0x76])) cabinet
    t.planner.outdoor = some (-500) ∧ t.planner.outdoorClamped = true ∧ t.planner.outdoorState = .fresh := by decide +kernel

/-- R34: the record of profile 5 is read back from its slot. -/
theorem test_loadProfile : (got (.loadProfile taxiLoad) State.reset).profiles.get 5 = some taxi := by decide +kernel

/-- R33: a slot in use is neither loaded nor cleared. -/
theorem test_profile_in_use :
    (got (.clearProfile [5]) warming).port.current.map Current.phase = some (.processed [0x08])
      ∧ (got (.loadProfile taxiLoad) warming).port.current.map Current.phase = some (.processed [0x08]) := by decide +kernel

/-- R179: after reset READ_NOTICES shows CLOCK_UNSET and the default enabled set, and marks it reported. -/
theorem test_readNotices :
    let t := got (.readNotices []) State.reset
    t.port.current.map Current.phase = some (.processed (bytes [0, 0x08, 0x00, 0x1F, 0xFB]))
      ∧ t.cab.notices.reported = 0x0800 ∧ t.cab.notices.attention = true := by decide +kernel

/-- R176: what was never shown is not cleared. -/
theorem test_ackNotices_unreported :
    (got (.ackNotices (bytes [0x1F, 0xFF])) State.reset).cab.notices = State.reset.cab.notices := by decide +kernel

/-- R177: the empty set releases the line. -/
theorem test_setNoticeEnable_empty : (got (.setNoticeEnable (bytes [0, 0])) State.reset).cab.notices.attention = false := by
  decide +kernel

/-- R165: a QUIESCE while the taxi holds a grant goes to QUIESCING and stops it. -/
theorem test_quiesce_stops :
    let t := got (.quiesce []) warming
    t.cab.quiesce = .quiescing ∧ (t.cab.outlet 3).grants.released = 0
      ∧ (t.cab.session 3).queue = [.fresh (.stop 58 25)] := by decide +kernel

/-- R165, R166: with nothing granted a QUIESCE completes at once. -/
theorem test_quiesce_completes : (got (.quiesce []) cabinet).cab.quiesce = .quiesced := by decide +kernel

/-- R163: RESUME is refused while the filtered level is asserted. -/
theorem test_resume_refused :
    (got (.resume []) { cabinet with shed := { filter := { asserted := true, run := 0 }, latch := true } }).shed.latch = true := by
  decide +kernel

/-- R197: at the end of its reply a RESTART sets the residual lease from the lease of the acknowledged grant. -/
theorem test_restart :
    let t := got (.frameSent 9) (replying warming 0x17)
    (t.cab.outlet 3).residual = 20 ∧ (t.cab.session 3).state = .empty
      ∧ t.cab.book.map (fun e => (e.state, e.bound)) = [(.booked, none)] := by decide +kernel

/-! ## One step: the port -/

/-- R182: in HUNT only a SYNC byte begins a frame. -/
theorem test_hunt :
    (got (.siteByteReceived 0x7E 1) State.reset).port.receiver = .hunt
      ∧ (got (.siteByteReceived 0xC3 1) State.reset).port.receiver = .length := by decide +kernel

/-- R183: a LEN of 251 abandons the frame and is counted. -/
theorem test_bad_len :
    let t := got (.siteByteReceived 251 1) { State.reset with port := { Port.afterReset with receiver := .length } }
    t.port.receiver = .hunt ∧ t.port.discards = 1 := by decide +kernel

/-- R183: a SYNC byte 11 ms after the last finds the frame abandoned and begins a new one; 10 ms after, it is the frame's LEN of 195. -/
theorem test_late_byte :
    let s : State := { State.reset with port := { Port.afterReset with receiver := .length } }
    (got (.siteByteReceived 0xC3 11) s).port.discards = 1 ∧ (got (.siteByteReceived 0xC3 11) s).port.receiver = .length
      ∧ (got (.siteByteReceived 0xC3 10) s).port.receiver = .body 0xC3 [] := by decide +kernel

/-- R190: 10 ms after the last byte the gap abandons the frame; a byte that came before it continues the frame. -/
theorem test_gap :
    let s : State := { State.reset with port := { Port.afterReset with receiver := .length } }
    (got (.frameGapExpiry 10) s).port.discards = 1
      ∧ (got (.frameGapExpiry 10) (got (.siteByteReceived 3 10) s)).port.receiver = .body 3 [] := by decide +kernel

/-- R189: at the reply's end the held READ_NOTICES is processed at once. -/
theorem test_held_is_processed :
    let s := replying State.reset 0x02
    let t := got (.frameSent 5) { s with port := { s.port with held := some { ty := 0x10, payload := [] } } }
    t.port.current.map Current.phase = some (.processed (bytes [0, 0x08, 0x00, 0x1F, 0xFB])) ∧ t.cab.notices.reported = 0x0800 := by
  decide +kernel

/-- R186: a request that finds the held slot full is answered BUSY. -/
theorem test_busy :
    let s := replying cabinet 0x02
    (got (.readClock []) { s with port := { s.port with held := some { ty := 0x0D, payload := [0] } } }).port.outbox
      = [{ isReply := false, ty := 0x83, payload := [0x01] }] := by decide +kernel

/-! ## One step: time -/

/-- R138: the last second of a leap February. -/
theorem test_second_leap_day :
    let d := depotTimeOf { year := 2032, month := 2, day := 28, hour := 23, minute := 59, second := 59 }
    calendarTimeOf (got (.sourceSecond .calendarFirst) { cabinet with clock := { cabinet.clock with depotTime := d } }).clock.depotTime
      = { year := 2032, month := 2, day := 29, hour := 0, minute := 0, second := 0 } := by decide +kernel

/-- R144: the end of the span makes the calendar UNSET. -/
theorem test_second_end_of_range :
    let t := got (.sourceSecond .calendarFirst) { cabinet with clock := { cabinet.clock with depotTime := 3155759998 } }
    t.clock.calendar = .unset ∧ t.clock.depotTime = 3155759999 ∧ t.cab.notices.pending = 0x0800 := by decide +kernel

/-- R146: a window of no edges switches the source away and makes a TRUE calendar DRIFTING. -/
theorem test_window_fails :
    let t := got (.windowEnd 0 []) cabinet
    t.clock.source = .internal ∧ t.clock.calendar = .drifting ∧ t.cab.notices.pending.getLsbD 10 = true := by decide +kernel

/-- R145: 63,570 edges pass and 63,569 fail. -/
theorem test_window_bounds : windowPasses 63570 = true ∧ windowPasses 63569 = false ∧ windowPasses 67503 = false
      ∧ windowPasses 67502 = true ∧ windowPasses 131072 = false ∧ keptWindow 67502 = 65535 := by decide

/-- R43: the value ages when its age has passed 900 s, not at 900 s. -/
theorem test_outdoor_ages :
    (got .outdoorAged { cabinet with planner := { cabinet.planner with outdoorAge := 900 } }).planner.outdoorState = .fresh
      ∧ (got .outdoorAged { cabinet with planner := { cabinet.planner with outdoorAge := 901 } }).planner.outdoorState = .aged := by
  decide +kernel

/-- R43: a SET_OUTDOOR that comes after the passage is due takes it first, with its notice. -/
theorem test_outdoor_ages_before_it_is_set :
    let t := got (.setOutdoor (bytes [0xFF, 0x10])) { cabinet with planner := { cabinet.planner with outdoorAge := 901 } }
    t.planner.outdoorState = .fresh ∧ t.cab.notices.pending.getLsbD 12 = true := by decide +kernel

/-- R66, R94 to R101: at the boundary the WAITING lead whose start is near warms and is granted 7,000 W of the 12,000. -/
theorem test_boundary_grants :
    let s := with3 (parked (taxiSession 0) 0) [entryZero .waiting (some 3) none]
    let t := got .grantBoundary
      { s with
        clock := { s.clock with depotTime := halfPastFive - 1270 }
        arbiter := { s.arbiter with boundaryDue := true } }
    t.cab.book.map Entry.state = [.warming] ∧ (t.cab.outlet 3).grants.released = 7000 ∧ t.arbiter.secondsLeft = 10 := by
  decide +kernel

/-! ## One step: lines and links -/

/-- R112: the third differing sample begins the session. -/
theorem test_third_sample :
    let s := with3 { Outlet.afterReset with plug := { asserted := false, run := 2 } } []
    ((got (.plugLineSample 3 10 true) s).cab.session 3).state = .awaitingHello := by decide +kernel

/-- R159: the shed assertion sets the latch and stops the taxi; the grant it acknowledged is not forgotten. -/
theorem test_shed :
    let t := got .shedLineAsserted warming
    t.shed.latch = true ∧ (t.cab.outlet 3).grants.released = 0 ∧ (t.cab.outlet 3).holdsGrant = true := by decide +kernel

/-- R120: the first HELLO identifies the taxi, binds its entry and makes it the lead with the plan of 03, section 3.7. -/
theorem test_hello_identifies :
    let s := with3 (parked { Session.cleared with state := .awaitingHello, channel := .inFlight false [] } 0)
      [entryZero .booked none none]
    let t := got (.hello 3 20 (outletFrame 0x20 (bytes (taxiTagBytes ++ [5]))))
      { s with clock := { s.clock with depotTime := evening + 6000 } }
    (t.cab.session 3).state = .identified
      ∧ t.cab.book.map (fun e => (e.state, e.bound, e.plan.map Plan.leadTime)) = [(.waiting, some 3, some 1363)] := by decide +kernel

/-- R69, R71: a report of 205 brings the lead to HOLDING, and 2,050 W over 2 s adds 4,100 J. -/
theorem test_report_holds :
    let t := got (.report 3 3000 (outletFrame 0x21 (bytes [0x00, 0xCD, 0x08, 0x02, 0x01, 0x00, 0x3A]))) (inFlight warming false)
    t.cab.book.map (fun e => (e.state, e.exec.map Execution.energy)) = [(.holding, some 5100)]
      ∧ (t.cab.session 3).acked = some ⟨58, 2063⟩ ∧ (t.cab.session 3).lease = 25 := by decide +kernel

/-- R127: the limit of an acknowledged 2,063 W is 2,469 W, and of none 200 W. -/
theorem test_overdraw_limit :
    ({ taxiSession 2063 with acked := some ⟨58, 2063⟩ } : Session).overdrawLimit = 2469
      ∧ ({ taxiSession 0 with acked := none } : Session).overdrawLimit = 200 := by decide

/-- R118: the third miss makes the session STALE, the grant kept. -/
theorem test_third_miss :
    let s := inFlight (with3 (parked { taxiSession 7000 with misses := 2 } 7000) [entryZero .warming (some 3) none]) false
    let t := got (.replyTimeout 3 2000) s
    (t.cab.session 3).state = .stale ∧ (t.cab.outlet 3).grants.released = 7000 := by decide +kernel

/-- R78, R83: the taxi leaves in grace; its outcome is LEFT with the readiness of its snapshot. -/
theorem test_leaves_in_grace :
    let s := with3 (parked (taxiSession 2063) 2063)
      [entryZero .holding (some 3) (some (execution 7428100 (some ⟨.ready, some 209, false⟩)))]
    let t := got (.plugReleased 3) s
    t.cab.outcomes.map (fun r => (r.serial, r.cause, r.readiness, r.energy)) = [(0, .left, .ready, 2063)]
      ∧ t.cab.book = [] ∧ (t.cab.session 3).state = .empty := by decide +kernel

/-- R157, R179: a main reset over a DRIFTING calendar raises CLOCK_FALLBACK and keeps the time. -/
theorem test_mainReset_drifting :
    let t := got .mainReset { warming with clock := { warming.clock with calendar := .drifting } }
    t.cab.notices.pending = 0x0400 ∧ t.clock.depotTime = evening ∧ t.cab.book = [] := by decide +kernel

/-! ## Witnesses: states and operands that meet the hypotheses of each statement -/

theorem witness_StepRunsTheFrontCommand : State.reset.pending = [] := rfl

theorem warming_AttentionLaw : AttentionLaw warming := by unfold AttentionLaw; decide +kernel

theorem warming_BookLaw : BookLaw warming := by unfold BookLaw; decide +kernel

theorem warming_OutcomeLaw : OutcomeLaw warming := ⟨by decide, fun i r h => by simp [warming, with3, cabinet, State.reset] at h⟩

theorem warming_QueueLaw : QueueLaw warming := by unfold QueueLaw Session.QueueLaw; decide +kernel

theorem warming_ClockLaw : ClockLaw warming := by unfold ClockLaw; decide +kernel

theorem warming_ShedLaw : ShedLaw warming := by unfold ShedLaw; decide +kernel

theorem warming_SettingsLaw : SettingsLaw warming := by
  refine ⟨by decide, by decide, by decide, by decide, by decide, by decide, by decide, by decide, by decide, by decide, ?_, by decide⟩
  intro t h
  have : t = -240 := (Option.some.inj h).symm
  omega

theorem warming_PortLaw : PortLaw warming :=
  ⟨fun _ => rfl, fun _ => rfl, rfl, by decide, by decide, trivial⟩

theorem warming_AllowanceLaw : AllowanceLaw warming := by unfold AllowanceLaw; decide +kernel

theorem warming_holder : ∀ o, (warming.cab.session o).holdsBinding = true → o = 3 := by decide +kernel

theorem warming_ProfileLaw : ProfileLaw warming := by
  constructor
  · intro o h
    cases warming_holder o h
    exact ⟨5, taxi, rfl, rfl⟩
  · intro p r h
    have hp : ∀ p, warming.profiles.get p = none ∨ warming.profiles.get p = some taxi := by decide +kernel
    rcases hp p with h0 | h0
    · rw [h0] at h; cases h
    · rw [h0] at h; cases Option.some.inj h; decide

theorem warming_book (e : Entry) (h : e ∈ warming.cab.book) : e = entryZero .warming (some 3) (some (execution 1000 none)) :=
  List.mem_singleton.1 h

theorem warming_BindingLaw : BindingLaw warming := by
  constructor
  · intro o o' tag h _ h' _
    rw [warming_holder o h, warming_holder o' h']
  · decide +kernel

theorem warming_LeadLaw : LeadLaw warming := by unfold LeadLaw; decide +kernel

theorem BookLaw_of_one {s : State} {e : Entry} (hb : s.cab.book = [e]) (hn : e.number < 32) : BookLaw s := by
  unfold BookLaw; rw [hb]; simp [hn]

theorem NoOtherDue_of_one {c : Cabinet} {e : Entry} (hb : c.book = [e]) (t0 t1 : Nat) : c.NoOtherDue e t0 t1 := by
  intro f hf h; rw [hb] at hf; exact absurd (congrArg Entry.number (List.mem_singleton.1 hf)) h

theorem DistinctLaw_of_one {s : State} {e : Entry} (hb : s.cab.book = [e]) : DistinctLaw s := by
  intro x hx y hy _ _; rw [hb] at hx hy; rw [List.mem_singleton.1 hx, List.mem_singleton.1 hy]

/-- The cabinet with one entry bound to no outlet and a time base given. -/
def alone (e : Entry) (clock : TimeBase) : State := { with3 .afterReset [e] with clock := clock }

theorem cabinet_profiles : ∀ p r, cabinet.profiles.get p = some r → r.scalarsOk = true ∧ r.tableOk = true := by
  intro p r h
  have hp : ∀ p, cabinet.profiles.get p = none ∨ cabinet.profiles.get p = some taxi := by decide +kernel
  rcases hp p with h0 | h0
  · rw [h0] at h; cases h
  · rw [h0] at h; cases Option.some.inj h; decide

/-- A property of each of the eight outlets. -/
theorem each_outlet (P : OutletNo → Prop) (h0 : P 0) (h1 : P 1) (h2 : P 2) (h3 : P 3) (h4 : P 4) (h5 : P 5) (h6 : P 6)
    (h7 : P 7) : ∀ o, P o
  | ⟨0, _⟩ => h0 | ⟨1, _⟩ => h1 | ⟨2, _⟩ => h2 | ⟨3, _⟩ => h3 | ⟨4, _⟩ => h4 | ⟨5, _⟩ => h5 | ⟨6, _⟩ => h6 | ⟨7, _⟩ => h7

/-- The laws of such a cabinet: the entry is BOOKED and its next departure as the calendar has it. -/
theorem alone_DepartureLaws (e : Entry) (clock : TimeBase) (hb : e.bound = none) (hs : e.state = .booked) (hp : e.plan = none)
    (hn : e.number < 32) (hnext : if clock.isSet then (match e.booking with
      | .oneShot d => e.next = some d
      | .recurring _ => e.next ≠ none) else e.next = none) : DepartureLaws (alone e clock) := by
  have hold : ∀ o, ((alone e clock).cab.session o).holdsBinding = false :=
    each_outlet _ rfl rfl rfl rfl rfl rfl rfl rfl
  have mem : ∀ x ∈ (alone e clock).cab.book, x = e := fun x hx => List.mem_singleton.1 hx
  refine ⟨fun h => absurd rfl h, BookLaw_of_one rfl hn, fun x hx => by rw [mem x hx]; exact hnext, DistinctLaw_of_one rfl,
    ⟨fun o _ _ h => by rw [hold] at h; exact absurd h Bool.false_ne_true, ?_⟩, ⟨?_, ?_, ?_, ?_⟩, ?_,
    ⟨fun o h => by rw [hold] at h; exact absurd h Bool.false_ne_true, cabinet_profiles⟩⟩
  · intro x hx o; rw [mem x hx, hb, hold]; simp
  · intro x hx h; rw [mem x hx] at h; simp [Entry.isLead, hs] at h
  · intro x hx _; rw [mem x hx]; exact hp
  · intro x hx y hy _ _ _; rw [mem x hx, mem y hy]
  · intro _ x hx; rw [mem x hx]; exact hs
  · intro _ x hx o h; rw [mem x hx, hb] at h; exact absurd h (by simp)

/-- The cabinet with the taxi on outlet 3, its lead and a time base given. -/
def led (e : Entry) (watts : Nat) (clock : TimeBase) : State := { with3 (parked (taxiSession watts) watts) [e] with clock := clock }

/-- The laws of such a cabinet: the entry is the taxi's lead. -/
theorem led_DepartureLaws (e : Entry) (watts d : Nat) (clock : TimeBase) (hb : e.bound = some 3) (hl : e.isLead = true)
    (hp : e.plan ≠ none) (hn : e.number < 32) (hd : e.next = some d) (ht : e.tag = taxiTag) (hc : clock.isSet = true)
    (hk : match e.booking with | .oneShot b => b = d | .recurring _ => True) : DepartureLaws (led e watts clock) := by
  have hold : ∀ o, ((led e watts clock).cab.session o).holdsBinding = true → o = 3 := by
    have no {o : OutletNo} (h : false = true) : o = 3 := absurd h Bool.false_ne_true
    exact each_outlet (fun o => _ → o = 3) no no no (fun _ => rfl) no no no no
  have mem : ∀ x ∈ (led e watts clock).cab.book, x = e := fun x hx => List.mem_singleton.1 hx
  have tag : ((led e watts clock).cab.session 3).tag = some taxiTag := rfl
  have nb : e.state ≠ .booked := fun h => by simp [Entry.isLead, h] at hl
  have lead : (led e watts clock).cab.leadOf 3 = some e := by
    show ([e].find? fun x => x.bound == some 3 && x.isLead) = some e
    simp [List.find?, hb, hl]
  refine ⟨fun h => absurd rfl h, BookLaw_of_one rfl hn, ?_, DistinctLaw_of_one rfl, ⟨?_, ?_⟩, ⟨?_, ?_, ?_, ?_⟩, ?_, ⟨?_, cabinet_profiles⟩⟩
  · intro x hx; rw [mem x hx, if_pos (show (led e watts clock).clock.isSet = true from hc), hd]
    cases hbk : e.booking with
    | oneShot b => rw [hbk] at hk; simp [hk]
    | recurring q => simp
  · intro o o' _ h _ h' _; rw [hold o h, hold o' h']
  · intro x hx o; rw [mem x hx, hb, ht]
    constructor
    · intro h; cases Option.some.inj h; exact ⟨rfl, rfl⟩
    · intro h; rw [hold o h.1]
  · intro x hx _; rw [mem x hx, hb, hd]; exact ⟨by simp, hp, by simp⟩
  · intro x hx h; rw [mem x hx] at h; exact absurd h nb
  · intro x hx y hy _ _ _; rw [mem x hx, mem y hy]
  · intro h; exact absurd (show clock.isSet = false from h) (by simp [hc])
  · intro _ x hx o h; rw [mem x hx, hb] at h; cases Option.some.inj h
    exact ⟨e, d, lead, hd, fun t ht => by rw [mem x hx, hd] at ht; exact (Nat.le_of_eq (Option.some.inj ht))⟩
  · intro o h; cases hold o h; exact ⟨5, taxi, rfl, rfl⟩

theorem warming_DepartureLaws : DepartureLaws warming :=
  led_DepartureLaws _ 7000 halfPastFive cabinet.clock rfl rfl (by decide) (by decide) rfl rfl rfl rfl

/-- The invariants: a lawful state with a WARMING lead whose step answers. -/
theorem witness_invariants :
    let s : State := { warming with pending := [.sourceSecond .calendarFirst] }
    AttentionLaw s ∧ BookLaw s ∧ OutcomeLaw s ∧ QueueLaw s ∧ SettingsLaw s ∧ ClockLaw s ∧ ShedLaw s ∧ PortLaw s ∧ AllowanceLaw s
      ∧ ProfileLaw s ∧ DepartureLaws s
      ∧ step s = .next (got (.sourceSecond .calendarFirst) { warming with pending := [] }) :=
  ⟨warming_AttentionLaw, warming_BookLaw, warming_OutcomeLaw, warming_QueueLaw, warming_SettingsLaw, warming_ClockLaw, warming_ShedLaw,
    warming_PortLaw, warming_AllowanceLaw, warming_ProfileLaw,
    ⟨fun h => absurd rfl h, warming_DepartureLaws.2⟩, rfl⟩

/-- DepotTimeAndItsFormsAgree: the first and the last time, and a leap day. -/
theorem witness_DepotTimeAndItsFormsAgree :
    (0 : Nat) ≤ 3155759999 ∧ (3155759999 : Nat) ≤ 3155759999
      ∧ (⟨2000, 1, 1, 0, 0, 0⟩ : CalendarTime).valid = true ∧ (⟨2032, 2, 29, 23, 59, 59⟩ : CalendarTime).valid = true
      ∧ (⟨2099, 12, 31, 23, 59, 59⟩ : CalendarTime).valid = true := by decide

/-- CalendarAdvancesWithCarries: a time for each carry, the last two seconds of the span among them. -/
theorem witness_CalendarAdvancesWithCarries :
    (calendarTimeOf 3155759998).second = 58 ∧ (calendarTimeOf 59) = ⟨2000, 1, 1, 0, 0, 59⟩
      ∧ (calendarTimeOf 3599) = ⟨2000, 1, 1, 0, 59, 59⟩ ∧ (calendarTimeOf 86399) = ⟨2000, 1, 1, 23, 59, 59⟩
      ∧ (calendarTimeOf 2678399) = ⟨2000, 1, 31, 23, 59, 59⟩ ∧ (calendarTimeOf 31622399) = ⟨2000, 12, 31, 23, 59, 59⟩
      ∧ (31622399 : Nat) < 3155759999 := by decide

/-- SearchFindsTheEarliestOccurrence: a pattern with an occurrence, at the end of the span with none, and with a taken departure. -/
theorem witness_SearchFindsTheEarliestOccurrence :
    let p : Pattern := { minute := 30, hour := 5, weekdays := 0, day := none, month := none }
    p.minute ≤ 59 ∧ p.hour ≤ 23 ∧ p.nextOccurrence evening = some halfPastFive
      ∧ p.nextFree [halfPastFive] 2 evening = some (halfPastFive + 86400)
      ∧ ({ minute := 59, hour := 23, weekdays := 0, day := none, month := none } : Pattern).nextOccurrence 3155759939
        = some 3155759940 := by decide +kernel

theorem witness_SearchFindsNone :
    let p : Pattern := { minute := 59, hour := 23, weekdays := 0, day := none, month := none }
    p.nextOccurrence 3155759940 = none ∧ p.nextFree [3155759940] 2 3155759939 = none := by decide +kernel

theorem witness_WarmSecondsAreTheLeastThatSuffice :
    0 < (planInputs (-185) evening).deficit ∧ 0 < (planInputs (-185) evening).netPower := by decide

theorem witness_PlansKeepTheirLimits :
    let i := planInputs (-185) evening
    i.profile.minDraw ≤ i.profile.maxDraw ∧ 0 ≤ i.profile.heatCapacity ∧ 0 ≤ i.leadFull ∧ i.leadFull ≤ 14400
      ∧ taxi.tableOk = true ∧ i.plan.leadTime ≤ i.departure
      ∧ ¬ ({ i with departure := 60 } : PlanInputs).plan.leadTime ≤ 60 := by decide

theorem cabinet_portFree : cabinet.portFree := ⟨rfl, rfl⟩

theorem warming_portFree : warming.portFree := ⟨rfl, rfl⟩

/-- WrongLengthAndUnknownTypeChangeNothing: payloads one byte off, the three forms of BOOK, and the TYPEs beside the catalogue. -/
theorem witness_WrongLengthAndUnknownTypeChangeNothing :
    cabinet.portFree ∧ (bytes [0]).length ≠ 0 ∧ (bytes []).length ≠ 1 ∧ (bytes [0]).length ≠ 2 ∧ (bytes [0, 0, 0]).length ≠ 4
      ∧ (List.replicate 6 (0 : Byte)).length ≠ 7 ∧ (List.replicate 26 (0 : Byte)).length ≠ 27
      ∧ ((List.replicate 21 (0 : Byte)).length ≠ 22 ∧ (List.replicate 21 (0 : Byte)).length ≠ 23)
      ∧ ((List.replicate 13 (0 : Byte) ++ 2 :: List.replicate 9 0).length = 23
        ∧ u8At (List.replicate 13 (0 : Byte) ++ 2 :: List.replicate 9 0) 13 = 2)
      ∧ ((List.replicate 13 (0 : Byte) ++ 1 :: List.replicate 8 0).length = 22
        ∧ u8At (List.replicate 13 (0 : Byte) ++ 1 :: List.replicate 8 0) 13 = 1)
      ∧ (0 : Byte).toNat = 0 ∧ 23 < (24 : Byte).toNat := ⟨cabinet_portFree, by decide⟩

/-- RequestsBehindAnotherAreHeldOrAnsweredBusy: an empty held slot, a full one with three answers waiting and the transmitter IDLE or
SENDING, and with four. -/
theorem witness_RequestsBehindAnotherAreHeldOrAnsweredBusy :
    let busy : OutFrame := { isReply := false, ty := 0x82, payload := [0x01] }
    let s := replying cabinet 0x02
    let full := fun n => { s with port := { s.port with held := some ⟨0x02, []⟩, outbox := List.replicate n busy } }
    s.supply = .main ∧ s.port.current ≠ none ∧ requestOf (.setAllowance []) = some ⟨0x06, []⟩ ∧ s.port.held = none
      ∧ (cabinet.answered 0x02 [] [0x00]).port.current ≠ none ∧ (cabinet.answered 0x02 [] [0x00]).port.sending = none
      ∧ (full 3).port.held.isSome = true ∧ (full 3).port.waiting.length = 3 ∧ (full 3).port.sending.isSome = true
      ∧ (full 4).port.waiting.length = 4 := by decide

theorem witness_ReadingRequestsChangeOnlyTheReply :
    warming.portFree ∧ (15 : Byte).toNat < 16 ∧ 16 ≤ (16 : Byte).toNat ∧ (7 : Byte).toNat < 8 ∧ 8 ≤ (8 : Byte).toNat
      ∧ (31 : Byte).toNat < 32 ∧ 32 ≤ (32 : Byte).toNat ∧ warming.cab.entry? (31 : Byte).toNat = none
      ∧ warming.cab.entry? (0 : Byte).toNat = some (entryZero .warming (some 3) (some (execution 1000 none))) :=
  ⟨warming_portFree, by decide +kernel⟩

/-- ReadingRepliesHaveTheirLayouts: fields present and absent, and the last places of a page, a queue and a sent list. -/
theorem witness_ReadingRepliesHaveTheirLayouts :
    let e := entryZero .warming (some 3) (some (execution 1000 none))
    warming.profiles.get 5 = some taxi ∧ warming.profiles.get 4 = none ∧ warming.clock.lastWindow = none
      ∧ (0 : Nat) < 8 ∧ warming.cab.bookOrder[0 + 0]? = some e ∧ e.plan ≠ none ∧ (entryZero .booked none none).plan = none
      ∧ e.exec = some (execution 1000 none) ∧ (execution 1000 none).snapshot = none
      ∧ (warming.cab.session 3).queue.length ≤ 4 ∧ (warming.cab.session 3).sent.length ≤ 4
      ∧ (warming.cab.session 3).acked = some ⟨57, 7000⟩ ∧ (warming.cab.session 3).lastReport = none := by decide +kernel

theorem witness_SettingsAreClampedAndPending : cabinet.portFree ∧ (bytes [0, 0, 0, 0]).length = 4 := ⟨cabinet_portFree, by decide⟩

/-- OutdoorValueIsStoredFreshAndAges: a payload, and a FRESH value aged 900 s and 901 s. -/
theorem witness_OutdoorValueIsStoredFreshAndAges :
    cabinet.portFree ∧ (bytes [0xFF, 0x10]).length = 2 ∧ cabinet.supply = .main ∧ cabinet.planner.outdoorState = .fresh
      ∧ ¬ 900 < 900 ∧ 900 < 901 := ⟨cabinet_portFree, by decide⟩

/-- SetClockSetsTheCalendarOrRefuses: a value that is no date, one that is, and the last of the span. -/
theorem witness_SetClockSetsTheCalendarOrRefuses :
    cabinet.portFree ∧ (calendarAt (bytes [0x07, 0xEF, 2, 29, 0, 0, 0]) 0).valid = false
      ∧ (calendarAt (bytes [0x07, 0xF0, 2, 29, 0, 0, 0]) 0).valid = true
      ∧ depotTimeOf (calendarAt (bytes [0x08, 0x33, 12, 31, 23, 59, 59]) 0) = 3155759999
      ∧ (bytes [0x08, 0x33, 12, 31, 23, 59, 59]).length = 7 := ⟨cabinet_portFree, by decide⟩

/-- ProfilesAreLoadedAndClearedUnlessInUse: a slot out of range, one in use, one free, and a record in and out of range. -/
theorem witness_ProfilesAreLoadedAndClearedUnlessInUse :
    warming.portFree ∧ 16 ≤ u8At [16] 0 ∧ (warming.cab.session 3).uses 5 = true ∧ (∀ o, (warming.cab.session o).uses 15 = false)
      ∧ taxiLoad.length = 27 ∧ (profileIn taxiLoad).scalarsOk = true ∧ (profileIn taxiLoad).tableOk = true
      ∧ (profileIn (List.replicate 27 0)).scalarsOk = false := ⟨warming_portFree, by decide +kernel⟩

/-- The loading of slot 5: an UNMATCHED session whose tag no entry has, two with one tag that an entry has, of which the lower takes it, and one
whose tag is held already. -/
theorem witness_ProfilesAreLoaded_retests :
    let waiting : Outlet := parked { taxiSession 0 with state := .unmatched, cause := some .noProfile } 0
    let c := (with3 waiting [entryZero .booked none none]).cab
    let two : Cabinet := { c with outlets := c.outlets.set 6 waiting }
    let held : Cabinet := { c with outlets := c.outlets.set 6 (parked { taxiSession 0 with profile := some 4 } 0) }
    (c.session 3).state = .unmatched ∧ (c.session 3).profile = some 5 ∧ (c.session 3).tag = some taxiTag
      ∧ (∃ e ∈ c.book, e.tag = taxiTag) ∧ (∀ e ∈ (with3 waiting []).cab.book, e.tag ≠ taxiTag)
      ∧ (∀ o, (held.session o).uses 5 = false) ∧ (held.session 6).holdsBinding = true ∧ (held.session 6).tag = some taxiTag
      ∧ (3 : OutletNo) < 6 ∧ (two.session 6).state = .unmatched ∧ (two.session 6).profile = some 5
      ∧ ¬ (∃ x, (x ≠ 3 ∧ (two.session x).holdsBinding = true ∧ (two.session x).tag = some taxiTag)
        ∨ (x < 3 ∧ (two.session x).state = .unmatched ∧ (two.session x).profile = some 5 ∧ (two.session x).tag = some taxiTag)) := by
  decide +kernel

/-- R19, R34: of two UNMATCHED sessions with one tag, the loading of their profile identifies the lower outlet's. -/
theorem test_load_retests :
    let waiting : Outlet := parked { taxiSession 0 with state := .unmatched, cause := some .noProfile } 0
    let s := with3 waiting [entryZero .booked none none]
    let t := got (.loadProfile taxiLoad) { s with cab := { s.cab with outlets := s.cab.outlets.set 6 waiting } }
    (t.cab.session 3).state = .identified ∧ (t.cab.session 6).state = .unmatched ∧ (t.cab.session 6).cause = some .tagConflict
      ∧ t.cab.book.map Entry.bound = [some 3] := by decide +kernel

/-- A BOOK of TX-0417, ONE_SHOT at 05:30. -/
def bookHalfPastFive : List Byte := bytes (taxiTagBytes ++ [1, 0, 210, 10, 0x07, 0xEF, 1, 15, 5, 30])

/-- BookIsRefusedInTheOrderOfItsChecks: no departure in range, one too late, a duplicate, and a full book. -/
theorem witness_BookIsRefusedInTheOrderOfItsChecks :
    let late : State := { cabinet with clock := { cabinet.clock with depotTime := halfPastFive - 60 } }
    let full : State := with3 .afterReset ((List.range 32).map fun n =>
      { entryZero .booked none none with number := n, tag := bytes [0x41], next := some (halfPastFive + n) })
    cabinet.portFree ∧ bookLengthOk bookHalfPastFive = true
      ∧ bookRequestIn bookHalfPastFive = some ⟨taxiTag, .oneShot halfPastFive, 210, 10⟩
      ∧ bookRequestIn (bytes (taxiTagBytes ++ [1, 0, 100, 10, 0x07, 0xEF, 1, 15, 5, 30])) = none
      ∧ halfPastFive ≤ late.clock.depotTime + 60 ∧ late.clock.isSet = true
      ∧ (∀ n, n < 32 → ∃ e ∈ full.cab.book, e.number = n)
      ∧ (∀ e ∈ full.cab.book, e.tag = taxiTag → e.next ≠ some halfPastFive ∧ e.booking ≠ .oneShot halfPastFive) :=
  ⟨cabinet_portFree, by decide +kernel⟩

theorem witness_BookIsRefused_duplicates :
    let set := with3 .afterReset [entryZero .booked none none]
    let unset : State := { set with clock := { set.clock with calendar := .unset } }
    set.clock.isSet = true ∧ evening + 60 < halfPastFive
      ∧ (∃ e ∈ set.cab.book, e.tag = taxiTag ∧ e.next = some halfPastFive) ∧ unset.clock.isSet = false
      ∧ (∃ e ∈ unset.cab.book, e.tag = taxiTag ∧ e.booking = .oneShot halfPastFive)
      ∧ ({ minute := 30, hour := 5, weekdays := 0, day := none, month := none } : Pattern).nextOccurrence evening = some halfPastFive := by
  decide +kernel

/-- 05:30 every day. -/
def daily : Pattern := { minute := 30, hour := 5, weekdays := 0, day := none, month := none }

theorem witness_BookIsRefused_no_occurrence :
    let p : Pattern := { minute := 0, hour := 6, weekdays := 0, day := some 31, month := some 4 }
    (bookRequestIn (bytes (taxiTagBytes ++ [2, 0, 190, 10, 0, 6, 0, 31, 4]))).map BookRequest.booking = some (.recurring p)
      ∧ p.nextOccurrence evening = none ∧ daily.nextOccurrence 0 = some 19800
      ∧ (bookRequestIn (bytes (taxiTagBytes ++ [2, 0, 190, 10, 30, 5, 0, 255, 255]))).map BookRequest.booking = some (.recurring daily) := by
  decide +kernel

/-- AcceptedBookCreatesItsEntry: a second departure of the taxi on outlet 3. -/
theorem witness_AcceptedBookCreatesItsEntry :
    let p := bytes (taxiTagBytes ++ [1, 0, 220, 0, 0x07, 0xEF, 1, 15, 14, 0])
    let r : BookRequest := ⟨taxiTag, .oneShot (halfPastFive + 30600), 220, 0⟩
    warming.portFree ∧ bookLengthOk p = true ∧ bookRequestIn p = some r
      ∧ (match warming.judgeBook r with | .ok v => v = (1, some (halfPastFive + 30600)) | .error _ => False)
      ∧ BookLaw warming ∧ BindingLaw warming ∧ (warming.cab.session 3).holdsBinding = true
      ∧ (warming.cab.session 3).tag = some r.tag :=
  ⟨warming_portFree, by decide +kernel, by decide +kernel, rfl, warming_BookLaw, warming_BindingLaw, by decide +kernel, by decide +kernel⟩

/-- CancelRemovesTheEntryWithoutOutcome: a number out of range, one that no entry holds, a BOOKED entry and an active lead. -/
theorem witness_CancelRemovesTheEntryWithoutOutcome :
    let booked := with3 .afterReset [entryZero .booked none none]
    warming.portFree ∧ 32 ≤ (32 : Byte).toNat ∧ warming.cab.entry? (31 : Byte).toNat = none
      ∧ booked.cab.entry? (0 : Byte).toNat = some (entryZero .booked none none)
      ∧ (entryZero .booked none none).state = .booked
      ∧ (warming.cab.entry? (0 : Byte).toNat).map Entry.isActive = some true
      ∧ (warming.cab.entry? (0 : Byte).toNat).map Entry.bound = some (some 3) :=
  ⟨warming_portFree, by decide +kernel⟩

/-- Three outcome records, serials 65,534, 65,535 and 0. -/
def threeOutcomes : State :=
  let r : Serial → OutcomeRecord := fun n => (entryZero .booked none none).outcome .notPresent .absent halfPastFive n
  { cabinet with cab := { cabinet.cab with outcomes := [r 65534, r 65535, r 0], nextSerial := 1 } }

theorem threeOutcomes_OutcomeLaw : OutcomeLaw threeOutcomes := by
  refine ⟨by decide, fun i r h => ?_⟩
  have hi : i < 3 := (List.getElem?_eq_some_iff.1 h).1
  have h3 : i = 0 ∨ i = 1 ∨ i = 2 := by omega
  rcases h3 with rfl | rfl | rfl <;> (cases Option.some.inj h; decide)

/-- DropRemovesUpToTheSerial: the newest record, with the two older ones before it, and a serial that none has. -/
theorem witness_DropRemovesUpToTheSerial :
    threeOutcomes.portFree ∧ (bytes [0, 0]).length = 2 ∧ (∀ r ∈ threeOutcomes.cab.outcomes, r.serial ≠ 5)
      ∧ (∃ older r newer, threeOutcomes.cab.outcomes = older ++ r :: newer ∧ r.serial = 0 ∧ older.length = 2)
      ∧ OutcomeLaw threeOutcomes :=
  ⟨⟨rfl, rfl⟩, rfl, by decide +kernel, ⟨threeOutcomes.cab.outcomes.take 2, _, [], rfl, rfl, rfl⟩, threeOutcomes_OutcomeLaw⟩

/-- RaiseMarksPendingAndUnreported: the first and the last class. -/
theorem witness_RaiseMarksPendingAndUnreported : (0 : Nat) < 13 ∧ (12 : Nat) < 13 ∧ NoticeClass.outdoorStale.index = 12 := by decide

/-- AcknowledgeClearsOnlyWhatWasReported and EnableReplacesTheEnabledSet: the largest set accepted and the smallest refused. -/
theorem witness_NoticeSets :
    cabinet.portFree ∧ 8192 ≤ u16At (bytes [0x20, 0x00]) 0 ∧ u16At (bytes [0x1F, 0xFF]) 0 < 8192
      ∧ (bytes [0x1F, 0xFF]).length = 2 := ⟨cabinet_portFree, by decide⟩

/-- ShedAndQuiesceStopEverySession: a state in which an outlet holds a grant, and one in which none does. -/
theorem witness_ShedAndQuiesceStopEverySession :
    warming.supply = .main ∧ warming.shed.filter.asserted = false ∧ warming.portFree ∧ warming.cab.quiesce = .none
      ∧ (warming.cab.outlet 3).holdsGrant = true ∧ (∀ o, (cabinet.cab.outlet o).holdsGrant = false)
      ∧ (warming.cab.session 3).takesGrants = true ∧ (warming.cab.session 0).takesGrants = false
      ∧ ((inFlight warming true).cab.session 3).headInFlight = true
      ∧ ((inFlight warming true).cab.session 3).queue.head? = some (.fresh (.grant 58 2063 25)) :=
  ⟨rfl, rfl, warming_portFree, by decide +kernel⟩

/-- ResumeEndsTheStopOnlyWhenTheLineIsReleased: the level asserted, released, and a quiesce under way. -/
theorem witness_ResumeEndsTheStopOnlyWhenTheLineIsReleased :
    let shed : State := { cabinet with shed := { filter := { asserted := true, run := 0 }, latch := true } }
    let quiescing : State := { cabinet with cab := { cabinet.cab with quiesce := .quiescing } }
    shed.portFree ∧ shed.supply = .main ∧ shed.shed.filter.asserted = true ∧ cabinet.shed.filter.asserted = false
      ∧ quiescing.portFree ∧ quiescing.cab.quiesce ≠ .none := ⟨⟨rfl, rfl⟩, rfl, rfl, rfl, ⟨rfl, rfl⟩, by decide⟩

theorem witness_RestartTakesEffectAtTheEndOfItsReply :
    let s := replying warming 0x17
    let held : Request := ⟨0x0F, [3]⟩
    warming.portFree ∧ s.supply = .main ∧ s.port.sending = some ⟨true, 0x97, [0x00]⟩
      ∧ s.port.current = some { request := { ty := 0x17, payload := [] }, phase := .replying } ∧ s.port.held = none
      ∧ ({ s.port with held := some held } : Port).held = some held ∧ requestOf (.readOutlet 7 [3]) = some held
      ∧ requestTime (.readOutlet 7 [3]) ≤ max s.ms 7 := ⟨warming_portFree, by decide⟩

/-- ReceiverFollowsItsTable: a receiver in each state, a good CRC, a bad one, the two places a request can go, a gap of 10 ms and of 9, and a
byte 10 ms and 11 ms after the last. -/
theorem witness_ReceiverFollowsItsTable :
    let crc := crc16 [1, 0x02]
    cabinet.supply = .main ∧ cabinet.port.receiver = .hunt ∧ cabinet.port.current = none
      ∧ (1 ≤ (250 : Byte).toNat ∧ (250 : Byte).toNat ≤ 250) ∧ ¬ ((251 : Byte).toNat ≤ 250)
      ∧ crc = (crc.extractLsb' 8 8 ++ crc.extractLsb' 0 8 : BitVec 16) ∧ crc ≠ 0
      ∧ (replying cabinet 0x02).port.current ≠ none ∧ (replying cabinet 0x02).port.held = none
      ∧ requestOf (.readStatus []) = some ⟨0x02, []⟩ ∧ requestTime (.readStatus []) ≤ max cabinet.ms 0
      ∧ max cabinet.ms 10 ≤ cabinet.port.lastByteAt + 10 ∧ cabinet.port.lastByteAt + 10 < max cabinet.ms 11
      ∧ cabinet.port.lastByteAt + 10 ≤ max cabinet.ms 10 ∧ ¬ cabinet.port.lastByteAt + 10 ≤ max cabinet.ms 9 := by decide +kernel

/-- EveryFrameIsReceivedWhole: the longest payload, its bytes 10 ms apart. -/
theorem witness_EveryFrameIsReceivedWhole :
    cabinet.supply = .main ∧ cabinet.port.receiver = .hunt ∧ cabinet.ms ≤ 10 * 0
      ∧ (∀ i : Nat, 10 * i ≤ 10 * (i + 1) ∧ 10 * (i + 1) ≤ 10 * i + 10) ∧ (List.replicate 249 (0 : Byte)).length ≤ 249
      ∧ (0xA5 : Byte) ∉ [0x00, 0xC3] ∧ (List.replicate 16 (0 : Byte)).length ≤ 16 :=
  ⟨rfl, rfl, by decide, fun i => by omega, by decide +kernel⟩

/-- RepliesGoOutInTheOrderFormed: a processed request with the transmitter IDLE and SENDING, the end of a BUSY answer and of a reply, with a
request held and without. -/
theorem witness_RepliesGoOutInTheOrderFormed :
    let s := cabinet.answered 0x02 [] [0x00]
    let busy : OutFrame := ⟨false, 0x82, [0x01]⟩
    s.supply = .main ∧ s.port.current = some { request := { ty := 0x02, payload := [] }, phase := .processed [0x00] }
      ∧ s.port.sending = none ∧ ({ s.port with sending := some busy } : Port).sending = some busy ∧ busy.isReply = false
      ∧ (replying cabinet 0x02).port.sending = some ⟨true, 0x82, [0x00]⟩
      ∧ (replying cabinet 0x02).port.held = none ∧ requestOf (.readClock []) = some ⟨0x03, []⟩ ∧ requestTime (.readClock []) ≤ max s.ms 0
      ∧ ({ (replying cabinet 0x02).port with held := some ⟨0x03, []⟩ } : Port).held = some ⟨0x03, []⟩
      ∧ (∀ cur, (replying cabinet 0x02).port.current = some cur → cur.request.ty ≠ 0x17) := by
  refine ⟨rfl, rfl, rfl, rfl, rfl, rfl, rfl, rfl, by decide, rfl, fun cur h => ?_⟩
  cases Option.some.inj h; decide

theorem warming_nothingDue : warming.nothingDue := by unfold State.nothingDue; decide +kernel

/-- SourceSecondReachesEveryCount and EndOfRangeUnsetsTheCalendarAndTheBook: a running cabinet, and the last second before the end. -/
theorem witness_SourceSeconds :
    let last : State := { warming with clock := { warming.clock with depotTime := 3155759998 } }
    warming.nothingDue ∧ last.nothingDue ∧ last.clock.isSet = true ∧ last.clock.depotTime = 3155759998 :=
  ⟨warming_nothingDue, warming_nothingDue, by decide +kernel⟩

/-- A lead in grace, holding the snapshot of its departure. -/
def inGrace : Entry := entryZero .holding (some 3) (some (execution 7428100 (some ⟨.ready, some 209, false⟩)))

/-- The clock of the evening at another time. -/
def clockAt (t : Nat) : TimeBase := { cabinet.clock with depotTime := t }

/-- 23:59 every day. -/
def midnight : Pattern := { minute := 59, hour := 23, weekdays := 0, day := none, month := none }

theorem SecondOf_of_one {s : State} {e : Entry} {d : Nat} (hb : s.cab.book = [e]) (hd : s.nothingDue) (hs : s.clock.isSet = true)
    (ht : s.clock.depotTime + 1 = d) (hl : d < 3155759999) (hn : e.number < 32) (hlead : LeadLaw s) : s.SecondOf e d :=
  ⟨hd, hs, ht, hl, BookLaw_of_one hb hn, hlead, by rw [hb]; exact List.mem_singleton.2 rfl, NoOtherDue_of_one hb _ _⟩

/-- UnboundDepartureEndsNotPresent: a ONE_SHOT entry with an execution record, a RECURRING one with a next occurrence, and one without. -/
theorem witness_UnboundDepartureEndsNotPresent :
    let once := entryZero .booked none (some (execution 1000 none))
    let again : Entry := { once with booking := .recurring daily }
    let last : Entry := { once with booking := .recurring midnight, next := some 3155759940 }
    (alone once (clockAt (halfPastFive - 1))).SecondOf once halfPastFive ∧ once.next = some halfPastFive ∧ once.bound = none
      ∧ once.snapshot = none ∧ (alone again (clockAt (halfPastFive - 1))).SecondOf again halfPastFive
      ∧ (alone again (clockAt (halfPastFive - 1))).cab.findOccurrence again daily halfPastFive = some (halfPastFive + 86400)
      ∧ (alone last (clockAt 3155759939)).SecondOf last 3155759940
      ∧ (alone last (clockAt 3155759939)).cab.findOccurrence last midnight 3155759940 = none := by
  refine ⟨SecondOf_of_one rfl ?_ rfl rfl (by decide) (by decide) ?_, rfl, rfl, rfl,
    SecondOf_of_one rfl ?_ rfl rfl (by decide) (by decide) ?_, by decide +kernel,
    SecondOf_of_one rfl ?_ rfl rfl (by decide) (by decide) ?_, by decide +kernel⟩ <;>
    first | (unfold State.nothingDue; decide +kernel) | (unfold LeadLaw; decide +kernel)

/-- LeadTakesItsSnapshotAndGraceEndsIt: a WARMING lead with a grace of 10 minutes and with none, a HOLDING one at its grace expiry, and a
RECURRING one unbound at its own. -/
theorem witness_LeadTakesItsSnapshotAndGraceEndsIt :
    let lead := entryZero .warming (some 3) (some (execution 1000 none))
    let noGrace : Entry := { lead with grace := 0 }
    let kept : Entry := { entryZero .booked none inGrace.exec with booking := .recurring daily }
    let expiry := halfPastFive + 600
    (led lead 7000 (clockAt (halfPastFive - 1))).SecondOf lead halfPastFive ∧ lead.next = some halfPastFive ∧ lead.bound = some 3
      ∧ lead.isLead = true ∧ lead.snapshot = none ∧ 0 < lead.grace
      ∧ (led noGrace 7000 (clockAt (halfPastFive - 1))).SecondOf noGrace halfPastFive ∧ noGrace.grace = 0
      ∧ (led inGrace 2063 (clockAt (expiry - 1))).SecondOf inGrace expiry ∧ halfPastFive + inGrace.grace * 60 = expiry
      ∧ inGrace.snapshot = some ⟨.ready, some 209, false⟩ ∧ inGrace.isActive = true
      ∧ (alone kept (clockAt (expiry - 1))).SecondOf kept expiry ∧ kept.snapshot = some ⟨.ready, some 209, false⟩
      ∧ (alone kept (clockAt (expiry - 1))).cab.findOccurrence kept daily expiry = some (halfPastFive + 86400)
      ∧ (∀ t, DepartureLaws (led lead 7000 (clockAt t)) ∧ DepartureLaws (led noGrace 7000 (clockAt t))
        ∧ DepartureLaws (led inGrace 2063 (clockAt t)) ∧ DepartureLaws (alone kept (clockAt t))) := by
  refine ⟨SecondOf_of_one rfl ?_ rfl rfl (by decide) (by decide) ?_, rfl, rfl, rfl, rfl, by decide,
    SecondOf_of_one rfl ?_ rfl rfl (by decide) (by decide) ?_, rfl,
    SecondOf_of_one rfl ?_ rfl rfl (by decide) (by decide) ?_, rfl, rfl, rfl,
    SecondOf_of_one rfl ?_ rfl rfl (by decide) (by decide) ?_, rfl, by decide +kernel,
    fun t => ⟨led_DepartureLaws _ _ halfPastFive _ rfl rfl (by decide) (by decide) rfl rfl rfl rfl,
      led_DepartureLaws _ _ halfPastFive _ rfl rfl (by decide) (by decide) rfl rfl rfl rfl,
      led_DepartureLaws _ _ halfPastFive _ rfl rfl (by decide) (by decide) rfl rfl rfl rfl,
      alone_DepartureLaws _ _ rfl rfl rfl (by decide) (by simp [clockAt, cabinet, TimeBase.isSet, entryZero])⟩⟩ <;>
    first | (unfold State.nothingDue; decide +kernel) | (unfold LeadLaw; decide +kernel)

/-- BookFollowsTheClock, while the calendar is set: a jump over an unbound entry's departure, over a lead's and over a grace expiry, a jump of
60 s over a departure, and a jump back that gives a RECURRING entry an earlier occurrence. -/
theorem witness_BookFollowsTheClock_set :
    let once := entryZero .booked none none
    let lead := entryZero .warming (some 3) (some (execution 1000 none))
    let again : Entry := { once with booking := .recurring daily, next := some (halfPastFive + 86400) }
    let p := bytes [0x07, 0xEF, 1, 15, 5, 35, 0]
    p.length = 7 ∧ (calendarAt p 0).valid = true ∧ depotTimeOf (calendarAt p 0) = halfPastFive + 300 ∧ cabinet.portFree
      ∧ DepartureLaws (alone once cabinet.clock) ∧ (alone once cabinet.clock).cab.NoOtherDue once evening (halfPastFive + 300)
      ∧ DepartureLaws (led lead 7000 cabinet.clock) ∧ halfPastFive + 300 < halfPastFive + lead.grace * 60
      ∧ DepartureLaws (led inGrace 2063 (clockAt (halfPastFive + 200)))
      ∧ depotTimeOf (calendarAt (bytes [0x07, 0xEF, 1, 15, 5, 40, 0]) 0) = halfPastFive + inGrace.grace * 60
      ∧ DepartureLaws (alone once (clockAt (halfPastFive - 60))) ∧ ¬ halfPastFive - 60 + 60 < halfPastFive
      ∧ depotTimeOf (calendarAt (bytes [0x07, 0xEF, 1, 15, 5, 30, 0]) 0) = halfPastFive
      ∧ DepartureLaws (alone again (clockAt (halfPastFive + 400))) ∧ ¬ again.DueIn (halfPastFive + 400) evening
      ∧ (alone again (clockAt (halfPastFive + 400))).cab.findOccurrence again daily evening = some halfPastFive := by
  refine ⟨rfl, by decide, by decide, cabinet_portFree, alone_DepartureLaws _ _ rfl rfl rfl (by decide) rfl, NoOtherDue_of_one rfl _ _,
    led_DepartureLaws _ _ halfPastFive _ rfl rfl (by decide) (by decide) rfl rfl rfl rfl, by decide,
    led_DepartureLaws _ _ halfPastFive _ rfl rfl (by decide) (by decide) rfl rfl rfl rfl, by decide,
    alone_DepartureLaws _ _ rfl rfl rfl (by decide) rfl, by decide, by decide,
    alone_DepartureLaws _ _ rfl rfl rfl (by decide) (by decide), ?_, by decide +kernel⟩
  rintro ⟨d, hd, h⟩
  cases Option.some.inj hd
  rcases h with h | h <;> exact absurd h (by decide)

/-- BookFollowsTheClock, out of UNSET: a ONE_SHOT entry at `t1` and after it, and RECURRING ones with a snapshot, with an occurrence and
without. -/
theorem witness_BookFollowsTheClock_unset :
    let unset : TimeBase := { cabinet.clock with calendar := .unset }
    let once : Entry := { entryZero .booked none none with next := none }
    let again : Entry := { once with booking := .recurring daily }
    let kept : Entry := { again with exec := inGrace.exec }
    unset.isSet = false ∧ (alone once unset).portFree ∧ (alone once unset).cab.outcomes.length + (alone once unset).cab.book.length ≤ 16
      ∧ DepartureLaws (alone once unset) ∧ once.booking = .oneShot halfPastFive
      ∧ depotTimeOf (calendarAt (bytes [0x07, 0xEF, 1, 15, 5, 30, 0]) 0) = halfPastFive
      ∧ depotTimeOf (calendarAt (bytes [0x07, 0xEF, 1, 15, 5, 29, 59]) 0) < halfPastFive
      ∧ DepartureLaws (alone again unset) ∧ daily.nextFree [] 1 evening = some halfPastFive ∧ again.snapshot = none
      ∧ daily.nextFree [] 1 (depotTimeOf (calendarAt (bytes [0x08, 0x33, 12, 31, 23, 59, 0]) 0)) = none
      ∧ DepartureLaws (alone kept unset) ∧ kept.snapshot = some ⟨.ready, some 209, false⟩ :=
  ⟨rfl, ⟨rfl, rfl⟩, by decide, alone_DepartureLaws _ _ rfl rfl rfl (by decide) rfl, rfl, by decide, by decide,
    alone_DepartureLaws _ _ rfl rfl rfl (by decide) rfl, by decide +kernel, rfl, by decide +kernel,
    alone_DepartureLaws _ _ rfl rfl rfl (by decide) rfl, rfl⟩

/-- WindowsDecideTheSource: the bounds of a pass, the counts beside them, and both sources. -/
theorem witness_WindowsDecideTheSource :
    cabinet.supply = .main ∧ cabinet.clock.source = .crystal ∧ ({ cabinet.clock with source := .internal } : TimeBase).source = .internal
      ∧ (63570 ≤ 63570 ∧ 67502 ≤ 67502) ∧ ¬ (63570 ≤ 63569) ∧ ¬ (67503 ≤ 67502) := by decide

/-- BoundaryTransfersAndStartsTheTimer: a boundary due, running and stopped. -/
theorem witness_BoundaryTransfersAndStartsTheTimer :
    let due : State := { warming with arbiter := { warming.arbiter with boundaryDue := true } }
    let stopped : State :=
      { with3 (parked (taxiSession 7000) 0) [] with
        arbiter := { cabinet.arbiter with boundaryDue := true }, shed := { filter := { asserted := false, run := 0 }, latch := true } }
    due.supply = .main ∧ due.arbiter.boundaryDue = true ∧ stopped.supply = .main ∧ stopped.arbiter.boundaryDue = true
      ∧ AllowanceLaw stopped ∧ stopped.powerStopped = true ∧ (stopped.cab.session 3).takesGrants = true :=
  ⟨rfl, rfl, rfl, rfl, by unfold AllowanceLaw; decide +kernel, by decide +kernel⟩

/-- The lead in grace and the entry that follows it, 30 minutes later. -/
def follower : Entry :=
  { entryZero .booked (some 3) none with number := 1, booking := .oneShot (halfPastFive + 1800), next := some (halfPastFive + 1800) }

/-- A boundary due while the taxi's lead is in grace and its next entry stands behind it. -/
def followed (now : Nat) : State :=
  { with3 (parked (taxiSession 2063) 2063) [inGrace, follower] with
    clock := clockAt now, arbiter := { cabinet.arbiter with boundaryDue := true } }

theorem followed_mem {now : Nat} {e : Entry} (h : e ∈ (followed now).cab.book) : e = inGrace ∨ e = follower := by
  simpa using (show e ∈ [inGrace, follower] from h)

theorem followed_DepartureLaws (now : Nat) : DepartureLaws (followed now) := by
  have hold : ∀ o, ((followed now).cab.session o).holdsBinding = true → o = 3 := by
    have no {o : OutletNo} (h : false = true) : o = 3 := absurd h Bool.false_ne_true
    exact each_outlet (fun o => _ → o = 3) no no no (fun _ => rfl) no no no no
  have lead : (followed now).cab.leadOf 3 = some inGrace := rfl
  refine ⟨fun h => absurd rfl h, ⟨?_, ?_, ?_⟩, ?_, ?_, ⟨?_, ?_⟩, ⟨?_, ?_, ?_, ?_⟩, ?_, ⟨?_, cabinet_profiles⟩⟩
  · show (List.map Entry.number [inGrace, follower]).Pairwise (· < ·); decide
  · intro e he; rcases followed_mem he with rfl | rfl <;> decide
  · show [inGrace, follower].length ≤ 32; decide
  · intro e he; rcases followed_mem he with rfl | rfl <;> rfl
  · intro e he f hf _ h
    rcases followed_mem he with rfl | rfl <;> rcases followed_mem hf with rfl | rfl <;> first | rfl | skip
    all_goals
      rcases h with h | ⟨d, h1, h2⟩
      · exact absurd h.2 (by decide)
      · exact absurd (h1.trans h2.symm) (by decide)
  · intro o o' _ h _ h' _; rw [hold o h, hold o' h']
  · intro e he o
    have hb : e.bound = some 3 ∧ e.tag = taxiTag := by rcases followed_mem he with rfl | rfl <;> exact ⟨rfl, rfl⟩
    rw [hb.1, hb.2]
    constructor
    · intro h; cases Option.some.inj h; exact ⟨rfl, rfl⟩
    · intro h; rw [hold o h.1]
  · intro e he _; rcases followed_mem he with rfl | rfl
    · decide
    · rename_i h; exact absurd h (by decide)
  · intro e he h; rcases followed_mem he with rfl | rfl
    · exact absurd h (by decide)
    · rfl
  · intro e he f hf h h' _
    rcases followed_mem he with rfl | rfl <;> rcases followed_mem hf with rfl | rfl <;>
      first | rfl | exact absurd h (by decide) | exact absurd h' (by decide)
  · intro h; exact absurd (show (clockAt now).isSet = false from h) (by simp [clockAt, cabinet, TimeBase.isSet])
  · intro _ e he o h
    have ho : o = 3 := by rcases followed_mem he with rfl | rfl <;> exact (Option.some.inj h).symm
    refine ⟨inGrace, halfPastFive, by rw [ho]; exact lead, rfl, fun t ht => ?_⟩
    rcases followed_mem he with rfl | rfl <;> cases Option.some.inj ht <;> decide
  · intro o h; cases hold o h; exact ⟨5, taxi, rfl, rfl⟩

/-- BoundaryStartsSupersedesAndShares: a WAITING lead at the last second before its start test and after it, and a lead in grace whose
follower's start is due and is not. -/
theorem witness_BoundaryStartsSupersedesAndShares :
    let e := entryZero .waiting (some 3) none
    let s : Nat → State := fun t => led e 0 (clockAt t)
    let env : State → Env := fun s => ⟨s.clock, s.planner, s.profiles, s.arbiter.pendingInterval⟩
    let due : State → Entry → Option Bool := fun s x =>
      (s.cab.planFor (env s) 3 x).map fun p => decide (p.start < s.clock.depotTime + s.arbiter.pendingInterval)
    (∀ t, DepartureLaws (s t)) ∧ (s 0).supply = .main ∧ e.state = .waiting ∧ e.bound = some 3 ∧ e.snapshot = none
      ∧ due (s (halfPastFive - 1372)) e = some true ∧ due (s (halfPastFive - 1373)) e = some false
      ∧ (∀ t, DepartureLaws (followed t)) ∧ (followed 0).arbiter.boundaryDue = true ∧ (followed 0).cab.outcomes.length ≤ 8
      ∧ inGrace.snapshot = some ⟨.ready, some 209, false⟩ ∧ follower.number ≠ inGrace.number ∧ follower.bound = inGrace.bound
      ∧ due (followed (halfPastFive + 428)) follower = some true ∧ due (followed (halfPastFive + 427)) follower = some false :=
  ⟨fun _ => led_DepartureLaws _ _ halfPastFive _ rfl rfl (by decide) (by decide) rfl rfl rfl rfl, rfl, rfl, rfl, rfl, by decide +kernel,
    by decide +kernel, followed_DepartureLaws, rfl, by decide, rfl, by decide, rfl, by decide +kernel, by decide +kernel⟩

/-- AllocationServesEachCandidateInTurn: a candidate in its place, one served and one passed over. -/
theorem witness_AllocationServesEachCandidateInTurn :
    let k1 : Candidate := ⟨5, 2, -40, 5500, 1000⟩
    let k2 : Candidate := ⟨0, 2, 300, 6000, 1500⟩
    [k1, k2] = [k1] ++ k2 :: [] ∧ k1.minDraw ≤ min k1.demand 6700 ∧ ¬ k2.minDraw ≤ min k2.demand 1200 := by decide

/-- DecisionIsReleasedDecreaseFirst: a decision that lowers outlet 3 below what it acknowledged, one that raises it with the set empty, and one
that raises outlet 2 while outlet 3 is in the set. -/
theorem witness_DecisionIsReleasedDecreaseFirst :
    let low := with3 (parked (taxiSession 2063) 2063) []
    let two : Cabinet := { warming.cab with outlets := warming.cab.outlets.set 2 (parked (taxiSession 1200) 1200) }
    (∀ o, (two.outlet o).grants.deferred = none) ∧ (two.session 3).takesGrants = true ∧ (two.session 2).state = .identified
      ∧ newGrant [(3, 2063), (2, 2000)] 3 ≤ (two.outlet 3).grants.released
      ∧ min (newGrant [(3, 2063), (2, 2000)] 3) (two.outlet 3).grants.released < (two.session 3).ackedWatts
      ∧ (two.outlet 2).grants.released < newGrant [(3, 2063), (2, 2000)] 2
      ∧ (∀ p, ¬ ((low.cab.session p).takesGrants = true
        ∧ min (newGrant [(3, 7000)] p) (low.cab.outlet p).grants.released < (low.cab.session p).ackedWatts))
      ∧ (low.cab.outlet 3).grants.released < newGrant [(3, 7000)] 3 := by decide +kernel

/-- ExpiredLeasesFreeTheRaisesAndTheQuiesce: an outlet alone in the set, and one beside another. -/
theorem witness_ExpiredLeasesFreeTheRaisesAndTheQuiesce_lease :
    let out : Outlet :=
      { parked { taxiSession 7000 with lease := 0, leaseDue := .due } 2063 with
        grants := { released := 2063, lastSeq := 58, nextSeq := 59, deferred := none, mark := some 58 } }
    let alone := with3 out []
    let both : Cabinet := { alone.cab with outlets := alone.cab.outlets.set 2 out }
    alone.supply = .main ∧ (alone.cab.session 3).leaseDue = .due ∧ (alone.cab.outlet 3).grants.mark = some 58
      ∧ (∀ p, p ≠ 3 → (alone.cab.outlet p).grants.mark = none) ∧ (∃ p, p ≠ 3 ∧ (both.outlet p).grants.mark ≠ none) := by
  decide +kernel

theorem witness_ExpiredLeasesFreeTheRaisesAndTheQuiesce_residual :
    let s := with3 { Outlet.afterReset with residualDue := true } []
    s.supply = .main ∧ (s.cab.outlet 3).residualDue = true ∧ (∀ p, (s.cab.outlet p).holdsGrant = false) := by decide +kernel

/-- LinesAreFilteredAndAPlugBeginsASession: runs of one and of two samples. -/
theorem witness_LinesAreFilteredAndAPlugBeginsASession_sample :
    let s := with3 { Outlet.afterReset with plug := { asserted := false, run := 2 } } []
    s.supply = .main ∧ true ≠ (s.cab.outlet 3).plug.asserted ∧ 2 ≤ (s.cab.outlet 3).plug.run ∧ (s.cab.outlet 0).plug.run < 2
      ∧ false = (s.cab.outlet 3).plug.asserted ∧ true ≠ s.shed.filter.asserted ∧ s.shed.filter.run < 2
      ∧ 2 ≤ ({ s.shed.filter with run := 2 } : Filter).run := by decide +kernel

theorem witness_LinesAreFilteredAndAPlugBeginsASession_plug :
    cabinet.supply = .main ∧ (cabinet.cab.outlet 3).plug.asserted = false ∧ (cabinet.cab.session 3).state = .empty := by decide +kernel

/-- SessionEndsLeaveNothingGranted: the taxi's plug released, and a BYE to a record in flight (in STALE: witness_StaleSessionsReturn). -/
theorem witness_SessionEndsLeaveNothingGranted :
    warming.supply = .main ∧ BindingLaw warming ∧ (warming.cab.outlet 3).plug.asserted = true ∧ (warming.cab.session 3).state ≠ .empty
      ∧ ((inFlight warming true).cab.session 3).channel = .inFlight true [] ∧ ((inFlight warming true).cab.session 3).repliesIdentified
      ∧ heardFrame (outletFrame 0x22 []) = .frame 0x22 [] :=
  ⟨rfl, warming_BindingLaw, by decide +kernel, by decide +kernel, by decide +kernel, .inl rfl, by decide +kernel⟩

theorem witness_LeavingInGraceEndsTheLeadLeft :
    let s := with3 (parked (taxiSession 2063) 2063) [inGrace]
    s.supply = .main ∧ (s.cab.outlet 3).plug.asserted = true ∧ (s.cab.session 3).holdsBinding = true ∧ BookLaw s
      ∧ s.cab.leadOf 3 = some inGrace ∧ inGrace.booking = .oneShot halfPastFive ∧ inGrace.next = some halfPastFive
      ∧ inGrace.exec = some (execution 7428100 (some ⟨.ready, some 209, false⟩))
      ∧ (execution 7428100 (some ⟨.ready, some 209, false⟩)).snapshot = some ⟨.ready, some 209, false⟩ :=
  ⟨rfl, by decide +kernel, by decide +kernel, by unfold BookLaw; decide +kernel, by decide +kernel, rfl, rfl, rfl, rfl⟩

/-- ChannelSendsTheHeadOrAPollInItsTime: a stale record ahead of a live GRANT, at the end of the wait and 1 ms before. -/
theorem witness_ChannelSendsTheHeadOrAPollInItsTime_record :
    let dead : QueueRecord := (QueueRecord.fresh (.grant 58 0 25)).makeStale
    let live := QueueRecord.fresh (.grant 59 2063 25)
    let s := with3 (parked { taxiSession 7000 with queue := [dead, live] } 2063) []
    s.supply = .main ∧ (s.cab.session 3).state = .identified ∧ (s.cab.session 3).channel = .idle
      ∧ (s.cab.session 3).queue = [dead] ++ live :: [] ∧ (∀ q ∈ [dead], q.stale = true) ∧ live.stale = false
      ∧ (s.cab.session 3).lastEnd = some 1000 ∧ 1000 + 50 ≤ max s.ms 1050 ∧ max s.ms 1049 < 1000 + 50 := by decide +kernel

/-- ChannelSendsTheHeadOrAPollInItsTime: IDENTIFIED at the end of its 2,000 ms and 1 ms before, and AWAITING_HELLO. -/
theorem witness_ChannelSendsTheHeadOrAPollInItsTime_poll :
    (warming.cab.session 3).state = .identified ∧ (warming.cab.session 3).channel = .idle ∧ (warming.cab.session 3).queue = []
      ∧ (warming.cab.session 3).lastEnd = some 1000 ∧ (warming.cab.session 3).lastPoll = some 900
      ∧ 900 + 2000 ≤ max warming.ms 2900 ∧ max warming.ms 2899 < 900 + 2000 ∧ 1000 + 50 ≤ max warming.ms 2899
      ∧ ({ taxiSession 0 with state := .awaitingHello } : Session).state = .awaitingHello := by decide +kernel

/-- A session on outlet 3 that waits for its HELLO with a POLL in flight, over a book. -/
def awaiting (book : List Entry) : State :=
  with3 (parked { Session.cleared with state := .awaitingHello, channel := .inFlight false [] } 0) book

/-- FirstHelloDecidesTheSession: a HELLO that passes, and one for each failing condition. -/
theorem witness_FirstHelloDecidesTheSession :
    let s := awaiting [entryZero .booked none none]
    let hello := bytes (taxiTagBytes ++ [5])
    let conflict : Cabinet := { s.cab with outlets := s.cab.outlets.set 0 (parked (taxiSession 0) 0) }
    s.supply = .main ∧ (s.cab.session 3).state = .awaitingHello ∧ (s.cab.session 3).channel = .inFlight false []
      ∧ heardFrame (outletFrame 0x20 hello) = .frame 0x20 hello ∧ heardFrame (outletFrame 0x20 []) = .frame 0x20 []
      ∧ helloContents hello = some (taxiTag, 5) ∧ helloContents [] = none ∧ helloContents (bytes (taxiTagBytes ++ [16])) = none
      ∧ s.profiles.get 5 ≠ none ∧ s.profiles.get 4 = none ∧ (∃ e ∈ s.cab.book, e.tag = taxiTag)
      ∧ (∀ e ∈ (awaiting []).cab.book, e.tag ≠ taxiTag)
      ∧ ¬ (∃ x, x ≠ 3 ∧ (s.cab.session x).holdsBinding = true ∧ (s.cab.session x).tag = some taxiTag)
      ∧ (∃ x, x ≠ 3 ∧ (conflict.session x).holdsBinding = true ∧ (conflict.session x).tag = some taxiTag) := by decide +kernel

/-- The taxi silent on outlet 3, STALE from a state and with a profile named, over a book. -/
def silent (cameFrom : CameFrom) (p : SlotNo) (book : List Entry) : State :=
  inFlight (with3 (parked { taxiSession 0 with state := .stale, cameFrom := some cameFrom, profile := some p } 0) book) false

/-- LaterHellosDecideNothingAndStaleSessionsReturn: a STALE session from IDENTIFIED, and from UNMATCHED one that passes and one for each failing
condition, one without a tag among them. -/
theorem witness_StaleSessionsReturn :
    let s := silent .unmatched 5 [entryZero .booked none none]
    let conflict : Cabinet := { s.cab with outlets := s.cab.outlets.set 0 (parked (taxiSession 0) 0) }
    s.supply = .main ∧ heardFrame (outletFrame 0x22 []) = .frame 0x22 [] ∧ goodReply 0x22 [] ∧ (s.cab.session 3).channel = .inFlight false []
      ∧ (s.cab.session 3).state = .stale ∧ ((silent .identified 5 []).cab.session 3).cameFrom = some .identified
      ∧ (s.cab.session 3).cameFrom = some .unmatched ∧ (s.cab.session 3).tag = some taxiTag
      ∧ ({ s.cab.session 3 with tag := none } : Session).tag = none ∧ (s.cab.session 3).profile = some 5
      ∧ s.profiles.get 5 ≠ none ∧ ((silent .unmatched 4 []).cab.session 3).profile = some 4 ∧ s.profiles.get 4 = none
      ∧ (∃ e ∈ s.cab.book, e.tag = taxiTag) ∧ (∀ e ∈ (silent .unmatched 5 []).cab.book, e.tag ≠ taxiTag)
      ∧ ¬ (∃ y, y ≠ 3 ∧ (s.cab.session y).holdsBinding = true ∧ (s.cab.session y).tag = some taxiTag)
      ∧ (∃ y, y ≠ 3 ∧ (conflict.session y).holdsBinding = true ∧ (conflict.session y).tag = some taxiTag) :=
  ⟨rfl, by decide +kernel, .inr (.inr ⟨rfl, rfl⟩), by decide +kernel⟩

/-- R119, R19: a HELLO in STALE from UNMATCHED is tested again, identifies the session and is answered so. -/
theorem test_stale_return :
    let s := silent .unmatched 5 [entryZero .booked none none]
    let t := got (.hello 3 5000 (outletFrame 0x20 (bytes (taxiTagBytes ++ [5])))) s
    (t.cab.session 3).state = .identified ∧ t.cab.book.map Entry.bound = [some 3]
      ∧ (t.cab.session 3).queue.map QueueRecord.body = [.welcome (some taxiTag) none] := by decide +kernel

/-- LaterHellosDecideNothingAndStaleSessionsReturn: a record in flight on an IDENTIFIED session, an IDLE channel, and a frame that stops
short. -/
theorem witness_LaterHellosDecideNothing :
    (inFlight warming true).supply = .main ∧ ((inFlight warming true).cab.session 3).state = .identified
      ∧ ((inFlight warming true).cab.session 3).channel = .inFlight true [] ∧ (warming.cab.session 3).channel = .idle
      ∧ heardFrame (outletFrame 0x20 [0]) = .frame 0x20 [0] ∧ heardFrame (bytes [0xA5, 0x20]) = .incomplete := by decide +kernel

/-- ReportIsFiledAndItsDrawJudged: a draw at the limit of record 58 and one above it, with no overdraw counted and with one; a STALE session from
IDENTIFIED, and an UNMATCHED one. -/
theorem witness_ReportIsFiledAndItsDrawJudged :
    let s := inFlight warming false
    let p := bytes [0x00, 0xCD, 0x09, 0xA5, 0x01, 0x00, 0x3A]
    s.supply = .main ∧ (s.cab.session 3).repliesIdentified ∧ ((silent .identified 5 []).cab.session 3).repliesIdentified
      ∧ ({ taxiSession 0 with state := .unmatched } : Session).state = .unmatched
      ∧ (s.cab.session 3).channel = .inFlight false [] ∧ p.length = 7 ∧ heardFrame (outletFrame 0x21 p) = .frame 0x21 p
      ∧ (s.cab.session 3).ackedAfter p = some ⟨58, 2063⟩ ∧ u16At p 2 = (s.cab.session 3).limitAfter p ∧ (s.cab.session 3).overdraw = 0
      ∧ 1 ≤ ({ taxiSession 7000 with overdraw := 1 } : Session).overdraw ∧ (s.cab.session 3).limitAfter p < 2470 :=
  ⟨rfl, .inl rfl, .inr ⟨rfl, rfl⟩, rfl, by decide +kernel⟩

/-- ReportMovesItsLeadAndAddsEnergy: a WARMING lead with a report at its target less 5 and a draw at the limit of its 7,000 W, one above it
with no overdraw counted, and a HOLDING lead with a report below its target less 20. -/
theorem witness_ReportMovesItsLeadAndAddsEnergy :
    let s := inFlight warming false
    let p := bytes [0x00, 0xCD, 0x1E, 0xDC, 0, 0, 0]
    let e := entryZero .warming (some 3) (some (execution 1000 none))
    s.supply = .main ∧ (s.cab.session 3).repliesIdentified ∧ (s.cab.session 3).channel = .inFlight false [] ∧ p.length = 7
      ∧ heardFrame (outletFrame 0x21 p) = .frame 0x21 p ∧ u16At p 2 = (s.cab.session 3).limitAfter p
      ∧ (s.cab.session 3).limitAfter p < 7901 ∧ (s.cab.session 3).overdraw = 0
      ∧ BookLaw s ∧ s.cab.leadOf 3 = some e ∧ e.exec = some (execution 1000 none) ∧ e.state = .warming
      ∧ e.target - 5 ≤ s16At p 0 ∧ (189 : Int) < inGrace.target - 20 ∧ inGrace.state = .holding :=
  ⟨rfl, .inl rfl, by decide +kernel, rfl, by decide +kernel, by decide +kernel, by decide +kernel, rfl, warming_BookLaw, by decide +kernel,
    rfl, rfl, by decide, by decide, rfl⟩

/-- MissesLeadToStaleAndToTheLinkLost: the miss counts on both sides of each bound, and bytes of each kind of miss. -/
theorem witness_MissesLeadToStaleAndToTheLinkLost :
    let s := fun (st : SessionState) (n : Nat) =>
      inFlight (with3 (parked { taxiSession 0 with state := st, misses := n } 0) []) false
    (s .awaitingHello 8).supply = .main ∧ ((s .awaitingHello 8).cab.session 3).channel = .inFlight false []
      ∧ ((s .awaitingHello 8).cab.session 3).misses < 9 ∧ 9 ≤ ((s .awaitingHello 9).cab.session 3).misses
      ∧ ((s .stale 4).cab.session 3).misses < 5 ∧ 5 ≤ ((s .stale 5).cab.session 3).misses
      ∧ ((s .identified 1).cab.session 3).misses < 2 ∧ 2 ≤ ((s .identified 2).cab.session 3).misses
      ∧ ((s .unmatched 2).cab.session 3).state = .unmatched ∧ heardFrame (bytes [0xA5, 0x22, 0, 0, 0]) = .bad
      ∧ heardFrame (outletFrame 0x33 []) = .frame 0x33 [] ∧ heardFrame (outletFrame 0x21 [0]) = .frame 0x21 [0]
      ∧ heardFrame (outletFrame 0x22 [0]) = .frame 0x22 [0] := by decide +kernel

/-- TimeBaseGoesOnAloneWithoutMainPower: a part on its backup cell with its source the crystal, and one that loses the main supply. -/
theorem witness_TimeBaseGoesOnAloneWithoutMainPower :
    warming.supply = .main ∧ (got .mainPowerLoss warming).supply = .backupOnly ∧ (got .mainPowerLoss warming).supply ≠ .main
      ∧ (got .mainPowerLoss warming).clock.source = .crystal
      ∧ (∀ order, Instr.framingError ≠ .sourceSecond order) ∧ (∀ edges recovered, Instr.framingError ≠ .windowEnd edges recovered)
      ∧ Instr.framingError ≠ .mainReset ∧ Instr.framingError ≠ .backupLoss :=
  ⟨rfl, by decide +kernel, by decide +kernel, by decide +kernel, fun _ h => (nomatch h), fun _ _ h => (nomatch h), (nomatch ·), (nomatch ·)⟩

end Sys2Proof.Tests
end

section
/-!
PROOFS. The Warm-Up Planner (03): the arithmetic of a plan and its limits, the requests that give the Planner and the Arbiter their settings,
the outdoor value, and the source second that ages it.
-/

namespace Sys2Proof.Machine.WarmUpPlanning

/-! ## Division rounded up -/

/-- The quotient rounded up is the least `n` for which `n` times the divisor reaches the dividend. -/
theorem ceilDiv_le_iff {a b n : Int} (hb : 0 < b) : ceilDiv a b ≤ n ↔ a ≤ n * b := by
  have h : -n ≤ -a / b ↔ -n * b ≤ -a := Int.le_ediv_iff_mul_le hb
  rw [Int.neg_mul] at h
  unfold ceilDiv
  omega

theorem le_ceilDiv_mul (a : Int) {b : Int} (hb : 0 < b) : a ≤ ceilDiv a b * b := (ceilDiv_le_iff hb).1 (Int.le_refl _)

theorem ceilDiv_nonneg {a b : Int} (ha : 0 ≤ a) (hb : 0 < b) : 0 ≤ ceilDiv a b := by
  have hneg : ¬ ceilDiv a b ≤ -1 := fun h => by
    have hle : a ≤ -1 * b := (ceilDiv_le_iff hb).1 h
    omega
  omega

/-! ## Warm seconds -/

/-- Below the target, with net heat power above 0, the warm seconds are those of R53. -/
theorem warmFull_of_reachable {i : PlanInputs} (hd : 0 < i.deficit) (hp : 0 < i.netPower) :
    i.warmFull = ceilDiv (i.warmHeat * 1000) i.netPower := by
  unfold PlanInputs.warmFull
  rw [if_neg (Int.not_le.2 hd), if_neg (Int.not_le.2 hp)]

/-- Settles O14: warm seconds are a quotient rounded up, which is the least multiplier that reaches the heat. -/
theorem warmSecondsAreTheLeastThatSuffice : Obligations.WarmSecondsAreTheLeastThatSuffice := by
  intro i hd hp
  rw [warmFull_of_reachable hd hp]
  exact ⟨le_ceilDiv_mul _ hp, fun _ hn => (ceilDiv_le_iff hp).2 hn⟩

theorem warmHeat_nonneg {i : PlanInputs} (hc : 0 ≤ i.profile.heatCapacity) : 0 ≤ i.warmHeat := by
  unfold PlanInputs.warmHeat
  split
  · exact Int.le_refl 0
  · next hd => exact ceilDiv_nonneg (Int.mul_nonneg hc (by omega)) (by decide)

theorem warmFull_nonneg {i : PlanInputs} (hc : 0 ≤ i.profile.heatCapacity) : 0 ≤ i.warmFull := by
  have hw := warmHeat_nonneg hc
  unfold PlanInputs.warmFull
  split
  · exact Int.le_refl 0
  · split
    · decide
    · next hp => exact ceilDiv_nonneg (by omega) (by omega)

/-! ## Lead time and start -/

theorem leadTime_le (i : PlanInputs) : i.leadTime ≤ 14400 := Int.toNat_le.2 (Int.min_le_right _ _)

theorem plan_warmSeconds_le (i : PlanInputs) : i.plan.warmSeconds ≤ 14400 := Int.toNat_le.2 (Int.min_le_right _ _)

theorem defrostLeft_le (i : PlanInputs) : i.defrostLeft ≤ i.profile.defrost := by
  unfold PlanInputs.defrostLeft; split <;> omega

/-- A lead time under its cap is the sum of its parts: none of them is negative, so the cap cuts none of them (R56). -/
theorem leadTime_eq_sum {i : PlanInputs} (hc : 0 ≤ i.profile.heatCapacity) (hle : i.leadFull ≤ 14400) :
    (i.leadTime : Int) = i.plan.warmSeconds + i.defrostLeft + i.margin := by
  have hw := warmFull_nonneg hc
  have hsum : i.leadFull = i.warmFull + i.defrostLeft + i.margin := rfl
  have hlead : i.leadTime = (min i.leadFull 14400).toNat := rfl
  have hwarm : i.plan.warmSeconds = (min i.warmFull 14400).toNat := rfl
  omega

theorem start_add_leadTime {i : PlanInputs} (h : i.leadTime ≤ i.departure) : i.start + i.leadTime = i.departure := by
  unfold PlanInputs.start; rw [if_pos h]; omega

theorem start_le_departure (i : PlanInputs) : i.start ≤ i.departure := by
  unfold PlanInputs.start
  split
  · exact Nat.sub_le _ _
  · exact Nat.min_le_left _ _

/-! ## Hold power and delivery factor -/

theorem holdPower_between {i : PlanInputs} (h : i.profile.minDraw ≤ i.profile.maxDraw) :
    i.profile.minDraw ≤ i.holdPower ∧ i.holdPower ≤ i.profile.maxDraw := by
  unfold PlanInputs.holdPower
  split
  · exact ⟨Nat.le_refl _, h⟩
  · omega

/-- A part `x` of the span `y` takes `u` towards `v` no lower than `lo`, which both keep to. -/
theorem scaled_ge {lo u v x y : Int} (hu : lo ≤ u) (hv : lo ≤ v) (hx : 0 ≤ x) (hxy : x ≤ y) : (lo - u) * y ≤ (v - u) * x := by
  have hreached : 0 ≤ (v - lo) * x := Int.mul_nonneg (by omega) hx
  have hrest : 0 ≤ (u - lo) * (y - x) := Int.mul_nonneg (by omega) (by omega)
  simp only [Int.sub_mul, Int.mul_sub] at hreached hrest ⊢
  omega

theorem scaled_le {hi u v x y : Int} (hu : u ≤ hi) (hv : v ≤ hi) (hx : 0 ≤ x) (hxy : x ≤ y) : (v - u) * x ≤ (hi - u) * y := by
  have hreached : 0 ≤ (hi - v) * x := Int.mul_nonneg (by omega) hx
  have hrest : 0 ≤ (hi - u) * (y - x) := Int.mul_nonneg (by omega) (by omega)
  simp only [Int.sub_mul, Int.mul_sub] at hreached hrest ⊢
  omega

/-- Between two points whose factors lie in a range, the interpolated factor lies there too, the rounding included: the range's ends are
whole (R50). -/
theorem interpolate_between {a b : FactorPoint} {t lo hi : Int} (ha : lo ≤ a.factor ∧ a.factor ≤ hi)
    (hb : lo ≤ b.factor ∧ b.factor ≤ hi) (hab : a.temp < b.temp) (hat : a.temp ≤ t) (htb : t ≤ b.temp) :
    lo ≤ interpolate a b t ∧ interpolate a b t ≤ hi := by
  have hspan : 0 < b.temp - a.temp := by omega
  have hx : 0 ≤ t - a.temp := by omega
  have hxy : t - a.temp ≤ b.temp - a.temp := by omega
  have hlow : lo - a.factor ≤ (b.factor - a.factor) * (t - a.temp) / (b.temp - a.temp) :=
    Int.le_ediv_of_mul_le hspan (scaled_ge ha.1 hb.1 hx hxy)
  have hhigh : (b.factor - a.factor) * (t - a.temp) / (b.temp - a.temp) ≤ hi - a.factor :=
    Int.ediv_le_of_le_mul hspan (scaled_le ha.2 hb.2 hx hxy)
  unfold interpolate
  omega

theorem factor_of_ok {q : FactorPoint} (h : q.ok = true) : 50 ≤ q.factor ∧ q.factor ≤ 400 := by
  simp only [FactorPoint.ok, Bool.and_eq_true, decide_eq_true_eq] at h
  omega

/-- A table in range: its factors, and the ascending temperatures (R32). -/
theorem tableOk_factors {p : Profile} (h : p.tableOk = true) :
    (50 ≤ p.p0.factor ∧ p.p0.factor ≤ 400) ∧ (50 ≤ p.p1.factor ∧ p.p1.factor ≤ 400) ∧ (50 ≤ p.p2.factor ∧ p.p2.factor ≤ 400)
      ∧ (50 ≤ p.p3.factor ∧ p.p3.factor ≤ 400) ∧ p.p0.temp < p.p1.temp ∧ p.p1.temp < p.p2.temp ∧ p.p2.temp < p.p3.temp := by
  simp only [Profile.tableOk, Bool.and_eq_true, decide_eq_true_eq] at h
  obtain ⟨⟨⟨⟨⟨⟨h0, h1⟩, h2⟩, h3⟩, h01⟩, h12⟩, h23⟩ := h
  exact ⟨factor_of_ok h0, factor_of_ok h1, factor_of_ok h2, factor_of_ok h3, h01, h12, h23⟩

/-- Outside the table's span the factor is an end point's, inside it lies between two of the points (R50, R51). -/
theorem factorAt_between {p : Profile} (h : p.tableOk = true) (t : Int) : 50 ≤ p.factorAt t ∧ p.factorAt t ≤ 400 := by
  obtain ⟨h0, h1, h2, h3, h01, h12, h23⟩ := tableOk_factors h
  unfold Profile.factorAt
  split
  · exact h0
  split
  · exact h3
  split
  · exact interpolate_between h2 h3 h23 (by omega) (by omega)
  split
  · exact interpolate_between h1 h2 h12 (by omega) (by omega)
  · exact interpolate_between h0 h1 h01 (by omega) (by omega)

/-- Settles O15, part by part of the plan, and for the factor by the place of the temperature in the table. -/
theorem plansKeepTheirLimits : Obligations.PlansKeepTheirLimits := by
  refine ⟨fun i hdraw hcap => ?_, fun p t h => factorAt_between h t⟩
  obtain ⟨hmin, hmax⟩ := holdPower_between hdraw
  exact ⟨start_add_leadTime, start_le_departure i, rfl, leadTime_le i, plan_warmSeconds_le i, defrostLeft_le i, hmin, hmax,
    fun _ hle => leadTime_eq_sum hcap hle⟩

/-! ## Settings -/

/-- A handler behind the length check whose payload has the right length, for a request in a free port: the command answers with what the
block gives (R185, R187). -/
theorem request_answers {s t : State} {n : Nat} {ty : Byte} {p reply : List Byte} {handler : Handler} (hfree : s.portFree)
    (hlen : p.length = n) (h : handler p s = (t, reply)) :
    (s.onMain fun s => s.request { ty := ty, payload := p } (withLength n handler)) = t.answered ty p reply := by
  rw [State.request_of_free hfree]
  exact State.process_eq_answered (by rw [withLength_of_eq hlen, h])

/-- Settles O21: both requests reach their block, which stores the clamped values and nothing else. -/
theorem settingsAreClampedAndPending : Obligations.SettingsAreClampedAndPending := fun _ _ hfree hlen =>
  ⟨congrArg Host.Outcome.next (request_answers hfree hlen rfl), congrArg Host.Outcome.next (request_answers hfree hlen rfl)⟩

/-! ## The outdoor value -/

theorem takeOutdoorAged_of_due {s : State} (h : s.planner.outdoorState = .fresh ∧ 900 < s.planner.outdoorAge) :
    s.takeOutdoorAged =
      { s with planner := { s.planner with outdoorState := .aged }, cab := s.cab.raise .outdoorStale } := if_pos h

theorem takeOutdoorAged_of_not_due {s : State} (h : ¬(s.planner.outdoorState = .fresh ∧ 900 < s.planner.outdoorAge)) :
    s.takeOutdoorAged = s := if_neg h

/-- What SET_OUTDOOR brings about: whether or not a passage to AGED was due, the value it stores is FRESH, and the notice of a passage that
was due has been raised (R42, R43). -/
theorem setOutdoor_eq (s : State) (temp : Int) :
    s.setOutdoor temp =
      State.onCabinet
        { (if s.planner.outdoorState = .fresh ∧ 900 < s.planner.outdoorAge then { s with cab := s.cab.raise .outdoorStale } else s) with
          planner := s.planner.setOutdoor temp }
        fun env c => c.replanAll env := by
  unfold State.setOutdoor
  split
  · next h => rw [takeOutdoorAged_of_due h]; rfl
  · next h => rw [takeOutdoorAged_of_not_due h]

/-- The mark of a clamped value, in the two spellings of "differs". -/
theorem planner_setOutdoor_eq (p : Planner) (temp : Int) :
    p.setOutdoor temp =
      { p with
        outdoorState := .fresh, outdoor := some (max (-500) (min 600 temp))
        outdoorClamped := decide (max (-500) (min 600 temp) ≠ temp), outdoorAge := 0 } := by
  unfold Planner.setOutdoor
  simp only [ne_eq, decide_not]
  rfl

/-- Settles O22: the request by what SET_OUTDOOR brings about, the passage to AGED by whether it is due. -/
theorem outdoorValueIsStoredFreshAndAges : Obligations.OutdoorValueIsStoredFreshAndAges := by
  constructor
  · intro s p hfree hlen
    refine congrArg Host.Outcome.next (request_answers hfree hlen ?_)
    rw [setOutdoor_eq, planner_setOutdoor_eq]
    rfl
  · intro s hs hfresh
    refine congrArg Host.Outcome.next ?_
    rw [State.onMain_main hs]
    split
    · next h => exact takeOutdoorAged_of_due ⟨hfresh, h⟩
    · next h => exact takeOutdoorAged_of_not_due fun hdue => h hdue.2

/-! ## A source second finds nothing due -/

theorem takeLeaseExpiry_of_none (env : Env) {c : Cabinet} {o : OutletNo} (h : (c.session o).leaseDue = .none) :
    c.takeLeaseExpiry env o = c := by
  unfold Cabinet.takeLeaseExpiry; rw [h]

theorem takeResidualExpiry_of_not_due {c : Cabinet} {o : OutletNo} (h : (c.outlet o).residualDue = false) :
    c.takeResidualExpiry o = c := by
  unfold Cabinet.takeResidualExpiry; rw [h]; rfl

/-- A fold of steps that each leave `c` as it is leaves it. -/
theorem foldl_of_fixed {α : Type} {op : Cabinet → α → Cabinet} {c : Cabinet} (h : ∀ a, op c a = c) (l : List α) : l.foldl op c = c := by
  induction l with
  | nil => rfl
  | cons a rest ih => rw [List.foldl_cons, h a, ih]

/-- With nothing due there is nothing to settle before a source second (log 6). -/
theorem settle_of_nothingDue {s : State} (h : s.nothingDue) : s.settle = s := by
  obtain ⟨-, hdue, hboundary, hage⟩ := h
  have hleases : s.takeLeaseExpiries = s := congrArg (fun c => { s with cab := c })
    (foldl_of_fixed (fun o => takeLeaseExpiry_of_none s.env (hdue o).1) outletNumbers)
  have hresiduals : s.takeResidualExpiries = s := congrArg (fun c => { s with cab := c })
    (foldl_of_fixed (fun o => takeResidualExpiry_of_not_due (hdue o).2) outletNumbers)
  have htimer : s.takeBoundary = s := by unfold State.takeBoundary; rw [hboundary]; rfl
  unfold State.settle
  rw [hleases, hresiduals, takeOutdoorAged_of_not_due hage, htimer]

theorem sourceSecond_of_nothingDue {s : State} (h : s.nothingDue) :
    s.sourceSecond .calendarFirst = s.countSecond.calendarSecond := by
  unfold State.sourceSecond State.mainSecond
  rw [h.1, settle_of_nothingDue h]

/-! ## A source second reaches the calendar -/

/-- The Time Base after the calendar's part of a source second, u already counted: it advances while it can, and is UNSET at the end of its
range (R138, R144). -/
def calendarAfterSecond (c : TimeBase) : TimeBase :=
  if c.canAdvance then if c.advance.depotTime = Config.lastDepotTime then c.advance.toUnset else c.advance else c

theorem countU_eq (c : TimeBase) :
    c.countU = { c with u := if c.source = .internal ∧ c.calendar = .drifting then min 4294967295 (c.u + 1) else c.u } := by
  unfold TimeBase.countU; split <;> rfl

theorem canAdvance_iff (c : TimeBase) : c.canAdvance = true ↔ c.isSet = true ∧ c.depotTime < 3155759999 := by
  unfold TimeBase.canAdvance
  rw [Bool.and_eq_true, decide_eq_true_eq]
  rfl

theorem calendarAfterSecond_eq (c : TimeBase) :
    calendarAfterSecond c = { c with
      depotTime := if c.isSet = true ∧ c.depotTime < 3155759999 then c.depotTime + 1 else c.depotTime
      calendar := if c.isSet = true ∧ c.depotTime + 1 = 3155759999 then .unset else c.calendar } := by
  unfold calendarAfterSecond
  simp only [canAdvance_iff]
  by_cases hadv : c.isSet = true ∧ c.depotTime < 3155759999
  · simp only [if_pos hadv]
    by_cases hlast : c.depotTime + 1 = 3155759999
    · have hunset : c.isSet = true ∧ c.depotTime + 1 = 3155759999 := ⟨hadv.1, hlast⟩
      rw [if_pos hunset]
      exact if_pos hlast
    · have hset : ¬(c.isSet = true ∧ c.depotTime + 1 = 3155759999) := fun h => hlast h.2
      rw [if_neg hset]
      exact if_neg hlast
  · have hlast : ¬(c.isSet = true ∧ c.depotTime + 1 = 3155759999) := fun h => hadv ⟨h.1, by omega⟩
    simp only [if_neg hadv, if_neg hlast]

/-- The end of the range changes the calendar's state and the cabinet, and of the outlets only grants and queues (R27, R144). -/
theorem endOfRange_stands (s : State) :
    ∃ c, LinksStand s.cab c ∧ s.endOfRange = { s with clock := s.clock.toUnset, cab := c } :=
  have hraise : LinksStand s.cab (s.cab.raise .clockUnset) := .of_outlets rfl rfl
  ⟨_, hraise.trans (Cabinet.becomeUnset_links _ _), rfl⟩

/-- The calendar's part of a source second changes the Time Base and the cabinet, and of the outlets only grants and queues (R138, R142,
R144). -/
theorem calendarSecond_stands (s : State) :
    ∃ c, LinksStand s.cab c ∧ s.calendarSecond = { s with clock := calendarAfterSecond s.clock, cab := c } := by
  unfold State.calendarSecond calendarAfterSecond
  split
  · have hbook := fun env => Cabinet.calendarSecond_links env s.cab
    dsimp only
    split
    · obtain ⟨c, hunset, heq⟩ := endOfRange_stands ({ s with clock := s.clock.advance }.onCabinet fun env c => c.calendarSecond env)
      exact ⟨c, (hbook _).trans hunset, heq⟩
    · exact ⟨_, hbook _, rfl⟩
  · exact ⟨_, .refl _, rfl⟩

/-! ## A source second reaches the counts -/

theorem arbiter_countSecond_eq {a : Arbiter} (h : a.boundaryDue = false) :
    a.countSecond = { a with
      secondsLeft := if a.secondsLeft ≤ 1 then a.secondsLeft else a.secondsLeft - 1
      boundaryDue := decide (a.secondsLeft ≤ 1) } := by
  unfold Arbiter.countSecond
  split
  · next hlast => rw [decide_eq_true hlast]
  · next hmore => rw [decide_eq_false hmore, ← h]

theorem planner_countSecond_eq (p : Planner) :
    p.countSecond = { p with
      outdoorAge := if p.outdoorState = .unknown then p.outdoorAge else min 65535 (p.outdoorAge + 1) } := by
  unfold Planner.countSecond
  split
  · next hstate => rw [if_pos hstate]
  · next hstate => rw [if_neg (by rw [hstate]; decide)]
  · next hstate => rw [if_neg (by rw [hstate]; decide)]

/-- What stands of a session whose queue alone has changed. -/
theorem fields_of_butQueue {x y : Session} (h : x.butQueue = y.butQueue) :
    x.lease = y.lease ∧ x.leaseDue = y.leaseDue ∧ x.state = y.state ∧ x.acked = y.acked :=
  ⟨(congrArg Session.lease h :), (congrArg Session.leaseDue h :), (congrArg Session.state h :), (congrArg Session.acked h :)⟩

/-- A source second counts a lease and a residual lease of which no expiry is due, and makes due those that end with it (R107, R169). -/
theorem outlet_countSecond {out : Outlet} (hl : out.session.leaseDue = .none) (hr : out.residualDue = false) :
    out.countSecond.session.lease = out.session.lease - 1
      ∧ (out.countSecond.session.leaseDue = .due ↔ out.session.lease = 1)
      ∧ out.countSecond.residual = out.residual - 1
      ∧ (out.countSecond.residualDue = true ↔ out.residual = 1) := by
  simp [Outlet.countSecond, hl, hr]

/-- Settles O39: with nothing due a source second is its counts and then the calendar's part, which leaves every count as it finds it. -/
theorem sourceSecondReachesEveryCount : Obligations.SourceSecondReachesEveryCount := by
  intro s hs
  have hsecond := sourceSecond_of_nothingDue hs
  obtain ⟨-, hdue, hboundary, -⟩ := hs
  obtain ⟨c, hlinks, hcalendar⟩ := calendarSecond_stands s.countSecond
  refine ⟨_, congrArg Host.Outcome.next (hsecond.trans hcalendar), ?_, arbiter_countSecond_eq hboundary,
    planner_countSecond_eq s.planner, fun o => ?_, rfl, rfl, rfl, rfl, rfl⟩
  · show calendarAfterSecond s.clock.countU = _
    rw [countU_eq, calendarAfterSecond_eq]
    rfl
  · have hcounted : s.countSecond.cab.outlet o = (s.cab.outlet o).countSecond := s.cab.outlet_map _ o
    obtain ⟨hlease, hleaseDue, hstate, hacked⟩ :=
      fields_of_butQueue ((hlinks.session o).trans (congrArg (fun out => out.session.butQueue) hcounted))
    have hresidual := (hlinks.residual o).trans (congrArg Outlet.residual hcounted)
    have hresidualDue := (hlinks.residualDue o).trans (congrArg Outlet.residualDue hcounted)
    obtain ⟨hlease', hleaseDue', hresidual', hresidualDue'⟩ := outlet_countSecond (hdue o).1 (hdue o).2
    exact ⟨hlease.trans hlease', hleaseDue ▸ hleaseDue', hresidual.trans hresidual', hresidualDue ▸ hresidualDue', hstate, hacked⟩

end Sys2Proof.Machine.WarmUpPlanning
end

section
/-!
PROOFS. Executing a departure (04): a REPORT and its lead, the lead whose vehicle leaves in grace, and the outcomes that are dropped.
-/

namespace Sys2Proof.Machine.ExecutingADeparture

/-! ## What the book alone decides -/

theorem leadOf_congr {c t : Cabinet} (h : t.book = c.book) (o : OutletNo) : t.leadOf o = c.leadOf o := by
  unfold Cabinet.leadOf; rw [h]

theorem entry?_congr {c t : Cabinet} (h : t.book = c.book) (n : Nat) : t.entry? n = c.entry? n := by
  unfold Cabinet.entry?; rw [h]

/-- An update of every entry that keeps the numbers is found under the number of before. -/
theorem find?_number_map {f : Entry → Entry} (hf : ∀ e, (f e).number = e.number) (book : List Entry) (n : Nat) :
    (book.map f).find? (fun e => e.number == n) = (book.find? fun e => e.number == n).map f := by
  rw [List.find?_map]
  congr 2
  funext e
  exact congrArg (· == n) (hf e)

theorem number_of_update {f : Entry → Entry} (hf : ∀ e, (f e).number = e.number) (n : Nat) (e : Entry) :
    (if e.number = n then f e else e).number = e.number := by
  split
  · exact hf e
  · rfl

/-- What is found under a number after an update of the entry with number `n` that keeps its number. -/
theorem entry?_updEntry {c : Cabinet} {n : Nat} {f : Entry → Entry} (hf : ∀ e, (f e).number = e.number) (m : Nat) :
    (c.updEntry n f).entry? m = (c.entry? m).map fun e => if e.number = n then f e else e :=
  find?_number_map (f := fun e => if e.number = n then f e else e)
    (number_of_update hf n) c.book m

theorem entry?_updEntry_of_ne {c : Cabinet} {n m : Nat} {f : Entry → Entry} (hf : ∀ e, (f e).number = e.number) (h : m ≠ n) :
    (c.updEntry n f).entry? m = c.entry? m := by
  rw [entry?_updEntry hf]
  cases hm : c.entry? m with
  | none => rfl
  | some e =>
    have hne : e.number ≠ n := fun he => h ((Cabinet.entry?_some hm).2.symm.trans he)
    rw [Option.map_some, if_neg hne]

theorem entry?_updEntry_of_some {c : Cabinet} {e : Entry} {f : Entry → Entry} (hf : ∀ x, (f x).number = x.number)
    (h : c.entry? e.number = some e) : (c.updEntry e.number f).entry? e.number = some (f e) := by
  rw [entry?_updEntry hf, h, Option.map_some, if_pos rfl]

/-! ## What a report does to its lead -/

/-- The energy that a REPORT adds (R71), with the elapsed time written out. -/
theorem energyOf_eq (draw : Nat) (ref : Option Nat) (now : Nat) :
    energyOf draw ref now = draw * (match ref with
      | some t => min (now - t) 5000
      | none => 0) / 1000 := by
  cases ref with
  | none => exact (Nat.zero_div 1000).symm
  | some t => rfl

theorem takeReport_number (e : Entry) (r : Report) (ref : Option Nat) (now : Nat) : (e.takeReport r ref now).number = e.number := by
  unfold Entry.takeReport
  cases e.state with
  | warming => dsimp only; split <;> rfl
  | holding | waiting | booked => rfl

/-- A report moves its lead between WARMING and HOLDING and adds the energy of its draw (R69 to R72). -/
theorem takeReport_eq {e : Entry} {x : Execution} (hx : e.exec = some x) (hactive : e.state = .warming ∨ e.state = .holding)
    (r : Report) (ref : Option Nat) (now : Nat) :
    e.takeReport r ref now = { e with
      state := if e.state = .warming ∧ e.target - 5 ≤ r.cabin then .holding
        else if e.state = .holding ∧ r.cabin < e.target - 20 then .warming else e.state
      exec := some { x with
        energy := min 4294967295 (x.energy + energyOf r.draw ref r.receivedAt)
        targetReached :=
          if e.state = .warming ∧ e.target - 5 ≤ r.cabin then some (x.targetReached.getD now) else x.targetReached } } := by
  have hexec : e.execution = x := by unfold Entry.execution; rw [hx]
  unfold Entry.takeReport
  rw [hexec]
  rcases hactive with h | h
  · by_cases hreached : e.target - 5 ≤ r.cabin
    · cases hr : x.targetReached <;> simp [h, hreached, hr, Config.max32]
    · simp [h, hreached, Config.max32]
  · by_cases hcold : r.cabin < e.target - 20 <;> simp [h, hcold, Config.max32]

/-! ## What a report finds of its session -/

/-- The session as the acknowledgement that a report names leaves it (R125). -/
def judged (x : Session) (named : Option Seq) : Session :=
  match named.bind x.sentWith with
  | some r => x.acknowledge r
  | none => x

theorem judged_energyRef (x : Session) (named : Option Seq) : (judged x named).energyRef = x.energyRef := by
  unfold judged; split <;> rfl

theorem judged_overdraw (x : Session) (named : Option Seq) : (judged x named).overdraw = x.overdraw := by
  unfold judged; split <;> rfl

theorem overdrawLimit_of_acked {x y : Session} (h : x.acked = y.acked) : x.overdrawLimit = y.overdrawLimit := by
  unfold Session.overdrawLimit; rw [h]

theorem butQueue_overdrawLimit (x : Session) : x.butQueue.overdrawLimit = x.overdrawLimit := rfl

/-- The record left acknowledged, from the payload of the REPORT (R125, R204). -/
theorem judged_acked (x : Session) (payload : List Byte) (now : Nat) :
    (judged x (reportOf payload now).named).acked = x.ackedAfter payload := by
  unfold Session.ackedAfter
  by_cases hnames : u8At payload 4 = 1
  · have hnamed : (reportOf payload now).named = some (BitVec.ofNat 16 (u16At payload 5)) := if_pos hnames
    rw [if_pos hnames, hnamed]
    unfold judged Session.sentWith
    rw [Option.bind_some]
    cases x.sent.find? fun r => r.seq == BitVec.ofNat 16 (u16At payload 5) <;> rfl
  · have hnamed : (reportOf payload now).named = none := if_neg hnames
    rw [if_neg hnames, hnamed]
    rfl

theorem judged_overdrawLimit (x : Session) (payload : List Byte) (now : Nat) :
    (judged x (reportOf payload now).named).overdrawLimit = x.limitAfter payload :=
  overdrawLimit_of_acked (y := { x with acked := x.ackedAfter payload }) (judged_acked x payload now)

/-! ## The judgement of an acknowledgement -/

theorem leaveReductionSet_book (env : Env) (c : Cabinet) (o : OutletNo) : (c.leaveReductionSet env o).book = c.book := by
  unfold Cabinet.leaveReductionSet
  split
  · rfl
  · dsimp only; split <;> rfl

theorem leaveReductionSet_outcomes (env : Env) (c : Cabinet) (o : OutletNo) :
    (c.leaveReductionSet env o).outcomes = c.outcomes := by
  unfold Cabinet.leaveReductionSet
  split
  · rfl
  · dsimp only; split <;> rfl

/-- Leaving the reduction-pending set changes grants and queues only (R103). -/
theorem leaveReductionSet_links (env : Env) (c : Cabinet) (o : OutletNo) : LinksStand c (c.leaveReductionSet env o) := by
  have hmark : LinksStand c (c.updGrants o fun g => { g with mark := none }) := .of_updOutlet c o _ rfl rfl rfl rfl
  unfold Cabinet.leaveReductionSet
  split
  · exact .refl c
  · dsimp only
    split
    · exact hmark.trans (Cabinet.releaseDeferred_links env _)
    · exact hmark

theorem session_completionTest (c : Cabinet) (o : OutletNo) : c.completionTest.session o = c.session o := by
  unfold Cabinet.session Cabinet.outlet
  rw [Cabinet.completionTest_outlets]


/-- An accepted acknowledgement reaches the outlet, which may leave the reduction-pending set, and then the completion test (R103, R125,
R166). -/
theorem judgeAcknowledgement_of_sent (env : Env) {c : Cabinet} {o : OutletNo} {seq : Seq} {r : SentRecord}
    (h : (c.session o).sentWith seq = some r) :
    c.judgeAcknowledgement env o (some seq) = (c.updOutlet o fun out => out.acknowledge r).completionTest
    ∨ c.judgeAcknowledgement env o (some seq) =
      ((c.updOutlet o fun out => out.acknowledge r).leaveReductionSet env o).completionTest := by
  unfold Cabinet.judgeAcknowledgement
  simp only [h]
  split
  · split
    · exact .inr rfl
    · exact .inl rfl
  · exact .inl rfl

theorem judgeAcknowledgement_book (env : Env) (c : Cabinet) (o : OutletNo) (named : Option Seq) :
    (c.judgeAcknowledgement env o named).book = c.book := by
  cases named with
  | none => rfl
  | some seq =>
    cases h : (c.session o).sentWith seq with
    | none => unfold Cabinet.judgeAcknowledgement; simp only [h]
    | some r =>
      rcases judgeAcknowledgement_of_sent env h with hj | hj <;>
        rw [hj, Cabinet.completionTest_book]
      · rfl
      · exact leaveReductionSet_book env _ o

/-- The session after the judgement of its acknowledgement, but for the queue, in which deferred raises may be placed (R103, R125). -/
theorem judgeAcknowledgement_session (env : Env) (c : Cabinet) (o : OutletNo) (named : Option Seq) :
    ((c.judgeAcknowledgement env o named).session o).butQueue = (judged (c.session o) named).butQueue := by
  cases named with
  | none => rfl
  | some seq =>
    unfold judged
    rw [Option.bind_some]
    cases h : (c.session o).sentWith seq with
    | none => unfold Cabinet.judgeAcknowledgement; simp only [h]
    | some r =>
      have hack : ((c.updOutlet o fun out => out.acknowledge r).session o) = (c.session o).acknowledge r :=
        congrArg Outlet.session (c.outlet_updOutlet_self o _)
      rcases judgeAcknowledgement_of_sent env h with hj | hj <;> rw [hj, session_completionTest]
      · rw [hack]
      · rw [(leaveReductionSet_links env _ o).session o, hack]

/-! ## The filing of a report -/

/-- A report whose draw is within the limit, or the first above it, changes its session alone (R127, R128). -/
theorem judgeOverdraw_book (env : Env) {c : Cabinet} {o : OutletNo} {r : Report}
    (h : r.draw ≤ (c.session o).overdrawLimit ∨ (c.session o).overdraw = 0) : (c.judgeOverdraw env o r).book = c.book := by
  have hcount : ¬ 2 ≤ (if (c.session o).overdrawLimit < r.draw then (c.session o).overdraw + 1 else 0) := by split <;> omega
  unfold Cabinet.judgeOverdraw
  rw [if_neg]
  · rfl
  · rw [Cabinet.session_updSession_self]; exact hcount

theorem bookReport_book_of_lead (env : Env) {c : Cabinet} {o : OutletNo} {e : Entry} (h : c.leadOf o = some e) (r : Report) :
    (c.bookReport env o r).book = (c.updEntry e.number fun x => x.takeReport r (c.session o).energyRef env.now).book := by
  unfold Cabinet.bookReport; rw [h]

theorem session_bookReport (env : Env) (c : Cabinet) (o : OutletNo) (r : Report) : (c.bookReport env o r).session o = c.session o := by
  unfold Cabinet.bookReport; split <;> rfl

/-- The cabinet after the first steps of a report: it is kept, and its acknowledgement judged (R124). -/
def acknowledgedBy (env : Env) (c : Cabinet) (o : OutletNo) (r : Report) : Cabinet :=
  (c.updSession o fun x => { x with lastReport := some r }).judgeAcknowledgement env o r.named

theorem acknowledgedBy_book (env : Env) (c : Cabinet) (o : OutletNo) (r : Report) : (acknowledgedBy env c o r).book = c.book :=
  judgeAcknowledgement_book env _ o r.named

theorem acknowledgedBy_session (env : Env) (c : Cabinet) (o : OutletNo) (r : Report) :
    ((acknowledgedBy env c o r).session o).butQueue = (judged { c.session o with lastReport := some r } r.named).butQueue := by
  unfold acknowledgedBy
  rw [judgeAcknowledgement_session, Cabinet.session_updSession_self]

/-- What the Book and the overdraw judgement read of a session whose acknowledgement has been judged (R71, R127). -/
theorem acknowledgedBy_reads (env : Env) (c : Cabinet) (o : OutletNo) (r : Report) :
    ((acknowledgedBy env c o r).session o).overdrawLimit = (judged { c.session o with lastReport := some r } r.named).overdrawLimit
      ∧ ((acknowledgedBy env c o r).session o).overdraw = (c.session o).overdraw
      ∧ ((acknowledgedBy env c o r).session o).energyRef = (c.session o).energyRef := by
  have h := acknowledgedBy_session env c o r
  refine ⟨?_, (congrArg Session.overdraw h :).trans (judged_overdraw _ _), (congrArg Session.energyRef h :).trans (judged_energyRef _ _)⟩
  rw [← butQueue_overdrawLimit, h, butQueue_overdrawLimit]

/-- A report filed in IDENTIFIED goes on to the Book, the energy reference and the overdraw judgement (R124). -/
theorem fileReport_of_identified (env : Env) {c : Cabinet} {o : OutletNo} (r : Report) (h : (c.session o).state = .identified) :
    c.fileReport env o r =
      (((acknowledgedBy env c o r).bookReport env o r).updSession o fun x => { x with energyRef := some r.receivedAt }).judgeOverdraw
        env o r := by
  unfold Cabinet.fileReport
  exact if_pos (by rw [Cabinet.session_updSession_self]; exact h)

/-- The book after a report filed in IDENTIFIED that does not end its session: the lead has taken it, and nothing else has changed (R124). -/
theorem fileReport_book (env : Env) {c : Cabinet} {o : OutletNo} {e : Entry} {r : Report} (hstate : (c.session o).state = .identified)
    (hlead : c.leadOf o = some e)
    (hdraw : r.draw ≤ (judged { c.session o with lastReport := some r } r.named).overdrawLimit ∨ (c.session o).overdraw = 0) :
    (c.fileReport env o r).book = (c.updEntry e.number fun x => x.takeReport r (c.session o).energyRef env.now).book := by
  have hbook := acknowledgedBy_book env c o r
  obtain ⟨hlimit, hoverdraw, href⟩ := acknowledgedBy_reads env c o r
  rw [fileReport_of_identified env r hstate, judgeOverdraw_book, Cabinet.updSession_book,
    bookReport_book_of_lead env ((leadOf_congr hbook o).trans hlead), href, Cabinet.updEntry_book, Cabinet.updEntry_book, hbook]
  rw [Cabinet.session_updSession_self, session_bookReport]
  show r.draw ≤ ((acknowledgedBy env c o r).session o).overdrawLimit ∨ ((acknowledgedBy env c o r).session o).overdraw = 0
  rw [hlimit, hoverdraw]
  exact hdraw

/-! ## A REPORT on the link -/

theorem takeReply_report (env : Env) (c : Cabinet) (o : OutletNo) (now : Nat) {bytes payload : List Byte}
    (h : heardFrame bytes = .frame 0x21 payload) : c.takeReply env o now bytes = c.takeReport env o now payload := by
  unfold Cabinet.takeReply; rw [h]; rfl

/-- A REPORT taken in IDENTIFIED, or in STALE come from there, is a good reply and is filed (R117, R119, R124). -/
theorem takeReport_of_repliesIdentified (env : Env) {c : Cabinet} {o : OutletNo} {payload : List Byte} {fromQueue : Bool}
    {frame : List Byte} (now : Nat) (hid : (c.session o).repliesIdentified) (hflight : (c.session o).channel = .inFlight fromQueue frame)
    (hlen : payload.length = 7) :
    c.takeReport env o now payload = (c.takeGood env o (fun _ => true) now).fileReport env o (reportOf payload now) := by
  have hstate : (c.session o).state ≠ .awaitingHello := by
    rcases hid with h | ⟨h, -⟩ <;> rw [h] <;> decide
  unfold Cabinet.takeReport
  rw [hflight]
  exact if_neg (not_or.2 ⟨hstate, fun hne => hne hlen⟩)

theorem returnFromStale_of_ne (env : Env) {c : Cabinet} {o : OutletNo} (h : (c.session o).state ≠ .stale) :
    c.returnFromStale env o = c := if_neg h

/-- A STALE session come from IDENTIFIED returns there (R119). -/
theorem returnFromStale_of_identified (env : Env) {c : Cabinet} {o : OutletNo} (h : (c.session o).state = .stale)
    (hfrom : (c.session o).cameFrom = some .identified) :
    c.returnFromStale env o = c.updSession o fun x => { x with state := .identified, cameFrom := none } := by
  unfold Cabinet.returnFromStale
  dsimp only
  rw [if_pos h, hfrom]

/-- A good reply that finds a session IDENTIFIED, or STALE come from there, leaves it IDENTIFIED and the book as it is (R117, R119). -/
theorem takeGood_identified (env : Env) {c : Cabinet} {o : OutletNo} (removes : QueueRecord → Bool) (now : Nat)
    (hid : (c.session o).repliesIdentified) :
    (c.takeGood env o removes now).book = c.book ∧ ∃ came, (c.takeGood env o removes now).session o =
      { (c.session o).goodReply removes now with state := .identified, cameFrom := came } := by
  have hgood : (c.updSession o fun s => s.goodReply removes now).session o = (c.session o).goodReply removes now :=
    c.session_updSession_self o _
  unfold Cabinet.takeGood
  rcases hid with h | ⟨h, hfrom⟩
  · rw [returnFromStale_of_ne env (by rw [hgood, Session.goodReply_state, h]; decide)]
    exact ⟨rfl, (c.session o).cameFrom, hgood.trans (by rw [← h]; rfl)⟩
  · rw [returnFromStale_of_identified env (by rw [hgood]; exact h) (by rw [hgood]; exact hfrom)]
    exact ⟨rfl, none, (Cabinet.session_updSession_self _ o _).trans (by rw [hgood])⟩

/-- The book after a REPORT in IDENTIFIED, or in STALE come from there, that does not end its session: the lead has taken it (R68, R124). -/
theorem takeReply_report_book (env : Env) {c : Cabinet} {o : OutletNo} {e : Entry} {bytes payload : List Byte} {fromQueue : Bool}
    {frame : List Byte} (now : Nat) (hheard : heardFrame bytes = .frame 0x21 payload) (hid : (c.session o).repliesIdentified)
    (hflight : (c.session o).channel = .inFlight fromQueue frame) (hlen : payload.length = 7)
    (hdraw : u16At payload 2 ≤ (c.session o).limitAfter payload ∨ (c.session o).overdraw = 0) (hlead : c.leadOf o = some e) :
    (c.takeReply env o now bytes).book =
      (c.updEntry e.number fun y => y.takeReport (reportOf payload now) (c.session o).energyRef env.now).book := by
  obtain ⟨hbook, came, hsession⟩ := takeGood_identified env (fun _ => true) now hid
  rw [takeReply_report env c o now hheard, takeReport_of_repliesIdentified env now hid hflight hlen,
    fileReport_book env (by rw [hsession]) ((leadOf_congr hbook o).trans hlead), hsession]
  · rw [Cabinet.updEntry_book, Cabinet.updEntry_book, hbook]; rfl
  · rw [judged_overdrawLimit, hsession]; exact hdraw

theorem exec_report {s : State} (hs : s.supply = .main) (o : OutletNo) (ms : Nat) (bytes : List Byte) :
    exec (.report o ms bytes) s = .next (s.onReply o ms bytes) :=
  congrArg Host.Outcome.next (State.onMain_main hs _)

theorem onReply_cab (s : State) (o : OutletNo) (ms : Nat) (bytes : List Byte) :
    (s.onReply o ms bytes).cab = s.cab.takeReply s.env o (max s.ms ms) bytes := rfl

/-- Settles O56: of the book a REPORT that does not end its session changes the lead alone, and what it does to a WARMING or HOLDING lead is
the statement's. -/
theorem reportMovesItsLeadAndAddsEnergy : Obligations.ReportMovesItsLeadAndAddsEnergy := by
  intro s o ms bytes payload fromQueue frame e x hs hheard hid hflight hlen hdraw hlaw hlead hx hactive cabin elapsed toHolding toWarming
  have hbook := takeReply_report_book s.env (max s.ms ms) hheard hid hflight hlen hdraw hlead
  rw [← onReply_cab] at hbook
  have hnumber := fun y : Entry => takeReport_number y (reportOf payload (max s.ms ms)) (s.cab.session o).energyRef s.env.now
  have hfound : s.cab.entry? e.number = some e := hlaw.entry?_eq (Cabinet.leadOf_some hlead).1
  refine ⟨_, exec_report hs o ms bytes, ?_, fun n hn => ?_⟩
  · rw [entry?_congr hbook, entry?_updEntry_of_some hnumber hfound, takeReport_eq hx hactive, energyOf_eq]
    rfl
  · rw [entry?_congr hbook, entry?_updEntry_of_ne hnumber hn]

/-! ## What the end of a session leaves of outcomes and entries -/

/-- Between `c` and `t` no outcome record has come or gone, and the book holds entries of the same numbers. -/
structure RecordsStand (c t : Cabinet) : Prop where
  outcomes : t.outcomes = c.outcomes
  numbers : t.numbers = c.numbers

theorem RecordsStand.refl (c : Cabinet) : RecordsStand c c := ⟨rfl, rfl⟩

theorem RecordsStand.trans {a b c : Cabinet} (h : RecordsStand a b) (k : RecordsStand b c) : RecordsStand a c :=
  ⟨k.outcomes.trans h.outcomes, k.numbers.trans h.numbers⟩

/-- A change that leaves outcomes and book. -/
theorem RecordsStand.of_book {c t : Cabinet} (h : t.outcomes = c.outcomes) (k : t.book = c.book) : RecordsStand c t :=
  ⟨h, congrArg (List.map Entry.number) k⟩

/-- A change of every entry that keeps the numbers. -/
theorem RecordsStand.of_map {c t : Cabinet} {f : Entry → Entry} (hf : ∀ e, (f e).number = e.number) (h : t.outcomes = c.outcomes)
    (k : t.book = c.book.map f) : RecordsStand c t := by
  refine ⟨h, ?_⟩
  unfold Cabinet.numbers
  rw [k, List.map_map]
  exact List.map_congr_left fun e _ => hf e

theorem RecordsStand.of_updEntry {n : Nat} {f : Entry → Entry} (hf : ∀ e, (f e).number = e.number) (c : Cabinet) :
    RecordsStand c (c.updEntry n f) :=
  .of_map (f := fun e => if e.number = n then f e else e) (number_of_update hf n) rfl rfl

theorem RecordsStand.foldl {α : Type} {op : Cabinet → α → Cabinet} (h : ∀ c a, RecordsStand c (op c a)) (l : List α) :
    ∀ c, RecordsStand c (l.foldl op c) := by
  induction l with
  | nil => exact fun c => .refl c
  | cons a rest ih => exact fun c => (h c a).trans (ih (op c a))

theorem updSession_records (c : Cabinet) (o : OutletNo) (f : Session → Session) : RecordsStand c (c.updSession o f) := .of_book rfl rfl

theorem raise_records (c : Cabinet) (n : NoticeClass) : RecordsStand c (c.raise n) := .of_book rfl rfl

theorem planEntry_records (env : Env) (c : Cabinet) (o : OutletNo) (e : Entry) : RecordsStand c (c.planEntry env o e) := by
  unfold Cabinet.planEntry
  split
  · exact .refl c
  · next p _ =>
    have hplan : RecordsStand c (c.updEntry e.number fun x => x.withPlan p) := .of_updEntry (fun x => x.withPlan_number p) c
    dsimp only
    split
    · exact hplan.trans (raise_records _ _)
    · exact hplan

theorem displaceLead_records (env : Env) (c : Cabinet) (o : OutletNo) : RecordsStand c (c.displaceLead env o) := by
  unfold Cabinet.displaceLead
  split
  · exact .refl c
  · next lead _ =>
    have hbooked : RecordsStand c (c.updEntry lead.number Entry.toBooked) := .of_updEntry Entry.toBooked_number c
    dsimp only
    split
    · exact hbooked.trans (.of_book rfl rfl)
    · exact hbooked

theorem makeLead_records (env : Env) (c : Cabinet) (o : OutletNo) (e : Entry) : RecordsStand c (c.makeLead env o e) := by
  unfold Cabinet.makeLead
  split
  · exact .refl c
  · exact (planEntry_records env c o e).trans (.of_updEntry (f := fun x => { x with state := .waiting }) (fun _ => rfl) _)

theorem chooseLead_records (env : Env) (c : Cabinet) (o : OutletNo) : RecordsStand c (c.chooseLead env o) := by
  unfold Cabinet.chooseLead
  split
  · split
    · exact .refl c
    · split
      · exact .refl c
      · exact (displaceLead_records env c o).trans (makeLead_records env _ o _)
  · exact .refl c

theorem bindTag_records (c : Cabinet) (o : OutletNo) (tag : Tag) : RecordsStand c (c.bindTag o tag) :=
  .of_map (f := fun e => if e.tag = tag then { e with bound := some o, occurrenceOutlet := some o } else e)
    (fun e => by split <;> rfl) rfl rfl

theorem identify_records (env : Env) (c : Cabinet) (o : OutletNo) (tag : Tag) : RecordsStand c (c.identify env o tag) := by
  unfold Cabinet.identify
  exact (updSession_records c o _).trans ((bindTag_records _ o tag).trans ((chooseLead_records env _ o).trans
    ((updSession_records _ o _).trans (raise_records _ _))))

/-- A test for binding changes sessions, and what entries are bound to, led and planned by (R17, R19). -/
theorem retest_records (env : Env) (c : Cabinet) (o : OutletNo) : RecordsStand c (c.retest env o) := by
  unfold Cabinet.retest
  dsimp only
  split
  · split
    · split
      · exact identify_records env c o _
      · exact .of_book rfl rfl
    · exact .refl c
  · exact .refl c

theorem retestTag_records (env : Env) (c : Cabinet) (tag : Tag) : RecordsStand c (c.retestTag env tag) :=
  .foldl (fun c o => by
    split
    · exact retest_records env c o
    · exact .refl c) outletNumbers c

theorem zeroAtSessionEnd_records (env : Env) (c : Cabinet) (o : OutletNo) : RecordsStand c (c.zeroAtSessionEnd env o) :=
  .of_book (leaveReductionSet_outcomes env _ o) (leaveReductionSet_book env _ o)

theorem completionTest_records (c : Cabinet) : RecordsStand c c.completionTest :=
  .of_book c.completionTest_outcomes c.completionTest_book

/-- A plug release leaves outcomes and entries as the release of the binding leaves them (R130). -/
theorem endSession_plugRelease_records (env : Env) {c : Cabinet} {o : OutletNo} (h : (c.session o).holdsBinding = true) :
    RecordsStand ((c.updSession o fun x => x.ended .plugRelease).releaseBinding env o .plugRelease) (c.endSession env o .plugRelease) := by
  unfold Cabinet.endSession
  dsimp only
  rw [h, if_pos rfl]
  refine RecordsStand.trans ?_ (completionTest_records _)
  refine (zeroAtSessionEnd_records env _ o).trans ?_
  cases (c.session o).tag with
  | none => exact .refl _
  | some tag => exact retestTag_records env _ tag

/-! ## The lead of a vehicle that leaves -/

/-- The entry that an unbinding leaves under a number (R22). -/
def unboundFrom (o : OutletNo) (e : Entry) : Entry := if e.bound = some o then { e.toBooked with bound := none } else e

theorem entry?_unbind (c : Cabinet) (o : OutletNo) (n : Nat) : (c.unbind o).entry? n = (c.entry? n).map (unboundFrom o) :=
  find?_number_map (f := unboundFrom o) (fun e => by unfold unboundFrom; split <;> rfl) c.book n

theorem appendOutcome_book (c : Cabinet) (e : Entry) (cause : EndCause) (r : Readiness) (t : Nat) :
    (c.appendOutcome e cause r t).book = c.book := by
  unfold Cabinet.appendOutcome; dsimp only; split <;> rfl

theorem appendOutcome_getLast? (c : Cabinet) (e : Entry) (cause : EndCause) (r : Readiness) (t : Nat) :
    (c.appendOutcome e cause r t).outcomes.getLast? = some (e.outcome cause r t c.nextSerial) := by
  unfold Cabinet.appendOutcome; dsimp only; split <;> exact List.getLast?_concat

/-- The outcome of an entry that holds a departure snapshot (R83). -/
theorem outcome_of_snapshot {e : Entry} {x : Execution} {n : Snapshot} (hx : e.exec = some x) (hn : x.snapshot = some n)
    (cause : EndCause) (r : Readiness) (t : Nat) (serial : Serial) :
    e.outcome cause r t serial =
      { serial := serial, number := e.number, tag := e.tag, outlet := e.occurrenceOutlet, scheduled := t, readiness := r
        cabin := n.cabin.map fun v => (v, n.stale), targetReached := x.targetReached, energy := x.energy / 3600
        cause := cause, conditions := x.conditions } := by
  have hheld : e.snapshot = some n := by unfold Entry.snapshot; rw [hx]; exact hn
  unfold Entry.outcome
  rw [hheld, hx]
  dsimp only
  cases n.cabin <;> rfl

/-- The end of a ONE_SHOT entry that is bound nowhere: its outcome is the newest, and its number is free (R80, R83). -/
theorem endEntry_oneShot_unbound (env : Env) {c : Cabinet} {e : Entry} {d : Nat} (hentry : c.entry? e.number = some e)
    (hkind : e.booking = .oneShot d) (hbound : e.bound = none) (cause : EndCause) (r : Readiness) (t : Nat) (zeroing : Bool) :
    (c.endEntry env e.number cause r t zeroing).outcomes.getLast? = some (e.outcome cause r t c.nextSerial)
      ∧ e.number ∉ (c.endEntry env e.number cause r t zeroing).numbers := by
  have hend : c.endEntry env e.number cause r t zeroing =
      ((c.appendOutcome e cause r t).updEntry e.number Entry.toBooked).removeEntry e.number := by
    unfold Cabinet.endEntry Cabinet.endOccurrence
    simp only [hentry, hbound, hkind]
  rw [hend]
  refine ⟨appendOutcome_getLast? c e cause r t, fun hmem => ?_⟩
  obtain ⟨y, hy, hnumber⟩ := List.mem_map.1 hmem
  exact (Cabinet.mem_removeEntry.1 hy).2 hnumber

/-- The binding released from under a ONE_SHOT lead past its departure: the lead ends with the readiness of its snapshot (R22, R78). -/
theorem releaseBinding_inGrace (env : Env) {c : Cabinet} {o : OutletNo} {e : Entry} {n : Snapshot} {d : Nat}
    (hentry : c.entry? e.number = some e) (hlead : c.leadOf o = some e) (hkind : e.booking = .oneShot d) (hnext : e.next = some d)
    (hsnapshot : e.snapshot = some n) (why : SessionEnd) :
    (c.releaseBinding env o why).outcomes.getLast? =
        some (Entry.outcome { e.toBooked with bound := none } why.endCause n.readiness d c.nextSerial)
      ∧ e.number ∉ (c.releaseBinding env o why).numbers := by
  have hunbound : (c.unbind o).entry? e.number = some { e.toBooked with bound := none } := by
    rw [entry?_unbind, hentry]
    exact congrArg some (if_pos (Cabinet.leadOf_some hlead).2.1)
  have hend : c.releaseBinding env o why = (c.unbind o).endEntry env e.number why.endCause n.readiness d false := by
    unfold Cabinet.releaseBinding
    simp only [hlead, hsnapshot, hnext, Option.getD_some]
  rw [hend]
  exact endEntry_oneShot_unbound (e := { e.toBooked with bound := none }) env hunbound hkind rfl _ _ _ _

theorem holdsBinding_ne_empty {x : Session} (h : x.holdsBinding = true) : x.state ≠ .empty := by
  intro hempty
  simp [Session.holdsBinding, hempty] at h

/-- The cabinet with the filtered level of outlet `o`'s plug line deasserted, and nothing else changed (R113). -/
def unplugged (c : Cabinet) (o : OutletNo) : Cabinet := c.updOutlet o fun out => { out with plug := .deasserted }

theorem unplugged_session (c : Cabinet) (o : OutletNo) : (unplugged c o).session o = c.session o := by
  unfold unplugged Cabinet.session
  rw [Cabinet.outlet_updOutlet_self]

/-- The release of an asserted plug ends the session there (R113). -/
theorem plugReleased_eq (env : Env) {c : Cabinet} {o : OutletNo} (hplug : (c.outlet o).plug.asserted = true)
    (hstate : (c.session o).state ≠ .empty) : c.plugReleased env o = (unplugged c o).endSession env o .plugRelease := by
  rw [← unplugged_session] at hstate
  unfold Cabinet.plugReleased
  rw [if_pos hplug]
  exact if_neg hstate

theorem exec_plugReleased {s : State} (hs : s.supply = .main) (o : OutletNo) :
    exec (.plugReleased o) s = .next (s.onCabinet fun env c => c.plugReleased env o) :=
  congrArg Host.Outcome.next (State.onMain_main hs _)

/-- Settles O51: the release of the binding ends the lead, and the rest of the session's end leaves the outcomes and the numbers. -/
theorem leavingInGraceEndsTheLeadLeft : Obligations.LeavingInGraceEndsTheLeadLeft := by
  intro s o e x n d hs hplug hholds hlaw hlead hkind hnext hx hsnapshot
  have hsession : (unplugged s.cab o).session o = s.cab.session o := unplugged_session s.cab o
  have hrest := endSession_plugRelease_records s.env (c := unplugged s.cab o) (hsession ▸ hholds)
  rw [← plugReleased_eq s.env hplug (holdsBinding_ne_empty hholds)] at hrest
  have hheld : e.snapshot = some n := by unfold Entry.snapshot; rw [hx]; exact hsnapshot
  have hfound : s.cab.entry? e.number = some e := hlaw.entry?_eq (Cabinet.leadOf_some hlead).1
  obtain ⟨hlast, hgone⟩ := releaseBinding_inGrace s.env
    (c := (unplugged s.cab o).updSession o fun x => x.ended .plugRelease) hfound hlead hkind hnext hheld .plugRelease
  rw [outcome_of_snapshot (e := { e.toBooked with bound := none }) hx hsnapshot, ← hrest.outcomes] at hlast
  rw [← hrest.numbers] at hgone
  exact ⟨_, _, exec_plugReleased hs o, hlast, rfl, rfl, rfl, rfl, rfl, rfl, rfl, rfl, rfl, rfl, rfl,
    fun y hy hnumber => hgone (List.mem_map.2 ⟨y, hy, hnumber⟩)⟩

/-! ## Outcomes dropped -/

/-- Within the list two records of one serial are one: sixteen serials do not wrap round (R84). -/
theorem index_eq_of_serial {s : State} (h : OutcomeLaw s) {i j : Nat} {a b : OutcomeRecord} (ha : s.cab.outcomes[i]? = some a)
    (hb : s.cab.outcomes[j]? = some b) (hab : a.serial = b.serial) : i = j := by
  obtain ⟨hlen, hserial⟩ := h
  have hi : i < s.cab.outcomes.length := (List.getElem?_eq_some_iff.1 ha).1
  have hj : j < s.cab.outcomes.length := (List.getElem?_eq_some_iff.1 hb).1
  have hsum := (hserial i a ha).trans (hserial j b hb).symm
  rw [hab] at hsum
  have hdistance := congrArg BitVec.toNat ((BitVec.add_right_inj _).1 hsum)
  simp only [BitVec.toNat_ofNat] at hdistance
  omega

/-- A serial that the record behind `older` has first: that record and the older ones are dropped (R87). -/
theorem dropCount_of_first {c : Cabinet} {older newer : List OutcomeRecord} {r : OutcomeRecord}
    (hlist : c.outcomes = older ++ r :: newer) (hfirst : ∀ x ∈ older, x.serial ≠ r.serial) :
    c.dropCount r.serial = some (older.length + 1) := by
  have hfind : c.outcomes.findIdx? (fun x => x.serial == r.serial) = some older.length := by
    have holder : older.findIdx? (fun x => x.serial == r.serial) = none :=
      List.findIdx?_eq_none_iff.2 fun x hx => beq_false_of_ne (hfirst x hx)
    rw [hlist, List.findIdx?_append, holder, List.findIdx?_cons, beq_self_eq_true]
    simp
  unfold Cabinet.dropCount
  rw [hfind]

theorem dropCount_of_absent {c : Cabinet} {v : Serial} (h : ∀ r ∈ c.outcomes, r.serial ≠ v) : c.dropCount v = none := by
  have hfind : c.outcomes.findIdx? (fun x => x.serial == v) = none :=
    List.findIdx?_eq_none_iff.2 fun r hr => beq_false_of_ne (h r hr)
  unfold Cabinet.dropCount
  rw [hfind]

/-- In a lawful list no record ahead of another has its serial (R84). -/
theorem serial_ne_of_older {s : State} (h : OutcomeLaw s) {older newer : List OutcomeRecord} {r : OutcomeRecord}
    (hlist : s.cab.outcomes = older ++ r :: newer) : ∀ x ∈ older, x.serial ≠ r.serial := by
  intro x hx heq
  obtain ⟨i, hi, rfl⟩ := List.getElem_of_mem hx
  have hahead : s.cab.outcomes[i]? = some older[i] := by rw [hlist, List.getElem?_append_left hi, List.getElem?_eq_getElem hi]
  have hthere : s.cab.outcomes[older.length]? = some r := by rw [hlist]; simp
  exact Nat.ne_of_lt hi (index_eq_of_serial h hahead hthere heq)

/-- Settles O29: the request by how many records its serial drops. -/
theorem dropRemovesUpToTheSerial : Obligations.DropRemovesUpToTheSerial := by
  intro s p hfree hlen v
  refine ⟨fun habsent => ?_, fun older r newer hlist hserial hlaw => ⟨?_, Nat.le_add_left _ _, ?_⟩⟩
  · refine congrArg Host.Outcome.next (WarmUpPlanning.request_answers hfree hlen ?_)
    rw [dropCount_of_absent habsent]
    rfl
  · refine congrArg Host.Outcome.next (WarmUpPlanning.request_answers hfree hlen ?_)
    have hcount := dropCount_of_first hlist (serial_ne_of_older hlaw hlist)
    rw [hserial] at hcount
    rw [hcount]
    have hkept : s.cab.outcomes.drop (older.length + 1) = newer := by rw [hlist]; simp
    dsimp only
    rw [hkept]
    rfl
  · have hlength := hlaw.1
    rw [hlist, List.length_append, List.length_cons] at hlength
    omega

end Sys2Proof.Machine.ExecutingADeparture
end
